-- ==== Sys2Proof/Word.lean ====
section
/-! DEFINITION. The vocabulary of the SJ6410: numbers with a range, the pieces of the pool state, the share-line frames
(spec/01_pool_state.md, spec/02_the_share_line.md R39) and the pins a hard reset samples. Plain types, no meaning. -/

namespace Sys2Proof

abbrev Byte := BitVec 8

/-- A station number, 0 to 31 (ADDR0 to ADDR4). -/
abbrev StationNo := Fin 32

/-- A channel, 0 to 5. -/
abbrev ChanNo := Fin 6

/-- A priority class, 0 to 3; class 3 is shed last. -/
abbrev PriClass := Fin 4

/-- A group, 0 to 15; 0 is an ordinary start. -/
abbrev GroupNo := Fin 16

/-- A shed level, 0 to 3 (R7). -/
abbrev ShedLevel := Fin 4

/-- The pool terms (R2): the pool limit in share units and the census interval code. -/
structure Terms where
  limit : Nat
  code : Nat
deriving DecidableEq, Repr

/-- One station row (R3). -/
structure Row where
  present : Bool
  misses : Nat
  totals : Vector Nat 4
deriving DecidableEq, Repr

/-- One wait-list entry (R8). -/
structure WaitEntry where
  station : StationNo
  channel : ChanNo
  cls : PriClass
  units : Nat
  group : GroupNo
deriving DecidableEq, Repr

/-- The replicated pool state (R3, R7, R8). The head of the wait list is the oldest entry. -/
structure Pool where
  level : ShedLevel
  rows : Vector Row 32
  waitList : List WaitEntry
deriving DecidableEq, Repr

/-- The three forms of RELEASE (R39). -/
inductive ReleaseForm where
  | trim | full | withdraw
deriving DecidableEq, Repr

/-- The two forms of SHED (R39). -/
inductive ShedForm where
  | set | raise
deriving DecidableEq, Repr

/-- The two modes of a census (R39). -/
inductive CensusMode where
  | timed | asked
deriving DecidableEq, Repr

/-- The header of a CENSUS (R39). -/
structure CensusHeader where
  mode : CensusMode
  terms : Terms
  digest : BitVec 16
deriving DecidableEq, Repr

/-- The four station maps of a census answer field (R34); bit n stands for station n. -/
structure Maps where
  joined : BitVec 32
  syncing : BitVec 32
  attention : BitVec 32
  dissent : BitVec 32
deriving DecidableEq, Repr

/-- A share-line frame: its kind and the fields of its body (R39). A target `none` is ALL. -/
inductive Frame where
  | stop (target : Option StationNo)
  | census (header : CensusHeader)
  | shed (form : ShedForm) (level : ShedLevel)
  | release (channel : ChanNo) (cls : PriClass) (units : Nat) (form : ReleaseForm)
  | snapshot (terms : Terms) (pool : Pool)
  | join (terms : Terms)
  | go (group : GroupNo)
  | claim (channel : ChanNo) (cls : PriClass) (units : Nat) (group : GroupNo) (wait : Bool)
  | note (target : Option StationNo) (data : List Byte)
deriving DecidableEq, Repr

/-- The input pins and conditions as they stand when a hard reset ends (R130, R149, R154, R168).
`die` is the die temperature in whole degrees Celsius, rounded down; `vs` the supply in millivolts, rounded down. -/
structure PinSample where
  address : StationNo
  die : Int
  vs : Nat
  stopAsserted : Bool
  csnLow : Bool
deriving DecidableEq, Repr

/-- What start edge, if any, a station in IDLE meets at an opportunity (R21): none; another station's edge once its own gap
was counted; another station's edge before its own gap was counted. -/
inductive StartEdge where
  | noEdge | withGap | beforeGap
deriving DecidableEq, Repr

/-- What a sender reads that finds another driving the wire (R22, R32): at one bit, dominant where it sent recessive; at the frame's end,
a frame that was well formed or not. -/
inductive Collision where
  | differs
  | ends (wellFormed : Bool)
deriving DecidableEq, Repr

/-- The two edges of CSN (R158): its fall opens a transaction; its rise ends one that held `bits` bits. -/
inductive CsnEdge where
  | fall
  | rise (bits : Nat)
deriving DecidableEq, Repr

end Sys2Proof
end

