-- ==== Sys2Proof/Config.lean ====
section
/-! DEFINITION. The constants of the SJ6410 that spec/ fixes for every station. The spec leaves no value free, so no free value
stands here. -/

namespace Sys2Proof.Config

/-- Wait-list capacity (R8, R9). -/
def waitCapacity : Nat := 24

/-- Failed attempts stored at most; one more isolates with reason LINE (R31). -/
def maxAttempts : Nat := 7

/-- Note queue capacity (R166). -/
def noteCapacity : Nat := 4

/-- The stored miss count at most; one more drops the row (R5, R98). -/
def maxMisses : Nat := 3

/-- The sync census count at most; one more isolates with reason NO_SNAPSHOT (R91). -/
def maxSyncCount : Nat := 2

/-- The largest current a measurement reads, in mA (R137). -/
def maxCurrent : Nat := 8000

/-- The reference counter's value at the end of a probe window (R132). -/
def windowPeriods : Nat := 4096

/-- The value the load counter saturates at (R132). -/
def loadSaturation : Nat := 65535

end Sys2Proof.Config
end

