-- ==== Sys2Proof/Syntax.lean ====
section
/-! DEFINITION. The commands of the SJ6410: one constructor for each row of spec/opcode_table.json, with the operands the rules
of spec/ give that step. A host request carries the index byte and the value it examines (R159); an accepted frame its sender
and its body's fields (R39); the end of a transaction CSN's edge (R158), with the die temperature and the supply of that moment for a
soft reset then carried out (R149, R154); a detection the quantity that was measured. -/

namespace Sys2Proof

inductive Instr where
  -- resets and the SPI transaction
  | powerOn (pins : PinSample)
  | pinReset (pins : PinSample)
  | softReset
  | transactionEnd (edge : CsnEdge) (die : Int) (vs : Nat)
  | unknown (code : Byte)
  -- configuration and membership requests
  | setItem (index : Byte) (value : BitVec 16)
  | commit
  | start
  -- channel requests
  | on (index : Byte) (value : BitVec 16)
  | arm (index : Byte) (value : BitVec 16)
  | off (index : Byte)
  | clearFault (index : Byte)
  -- pool requests
  | go (index : Byte)
  | setShed (index : Byte)
  | poolStop
  | stationStop (index : Byte)
  -- note requests
  | stageNoteByte (index : Byte) (value : BitVec 16)
  | sendNote (index : Byte) (value : BitVec 16)
  | readNoteByte (index : Byte)
  | dropNote
  -- reading and events
  | readItem (index : Byte) (value : BitVec 16)
  | nextEvent
  | setMask (index : Byte) (value : BitVec 16)
  -- the STOP input
  | stopInputAssertion
  -- the share line
  | idleGap (edge : StartEdge)
  | firstIdleGap
  | arbitrationWon
  | readbackFault
  | duplicateCollision (read : Collision)
  | censusAnswerField (sender : StationNo) (header : CensusHeader)
  | frameSpoiled
  -- accepted frames that the pool engine applies
  | claim (sender : StationNo) (channel : ChanNo) (cls : PriClass) (units : Nat) (group : GroupNo) (wait : Bool)
  | release (sender : StationNo) (channel : ChanNo) (cls : PriClass) (units : Nat) (full : Bool)
  | withdraw (sender : StationNo) (channel : ChanNo) (cls : PriClass) (units : Nat)
  | goApplied (sender : StationNo) (group : GroupNo)
  | shedSet (sender : StationNo) (level : ShedLevel)
  | shedRaise (sender : StationNo) (prior : ShedLevel)
  | stopAll (sender : StationNo)
  | stopStation (sender : StationNo) (target : StationNo)
  | note (sender : StationNo) (target : Option StationNo) (data : List Byte)
  | noteHoldExpiry
  | holdEnd
  -- accepted frames of membership
  | join (sender : StationNo) (terms : Terms)
  | snapshot (sender : StationNo) (terms : Terms) (pool : Pool)
  | census (sender : StationNo) (header : CensusHeader) (maps : Maps)
  -- membership timers
  | censusTimerExpiry
  | syncTimerExpiry
  | silenceTimerExpiry
  | rejoinTimerExpiry
  -- line faults
  | dataStuck
  | holdStuck
  | stuckExit
  -- channels, probe and output supervision
  | inrushTimerExpiry (channel : ChanNo)
  | spacingTimerExpiry
  | probeWindowEnd (loadPeriods : Nat)
  | overcurrent (channel : ChanNo) (current : Nat)
  | openLoad (channel : ChanNo) (current : Nat)
  -- the station monitor
  | thermalWarning (die : Int)
  | thermalShutdown (die : Int)
  | shutdownExit (die : Int)
  | lockoutEntry (vs : Nat)
  | lockoutExit (vs : Nat)
  | sagEpisodeOpen (vs : Nat)
  | sagEpisodeClose (vs : Nat)
  | stopInputRelease
  | stationClockTick
  | openLoadRearm (channel : ChanNo) (current : Nat)
  | currentMeasurement (channel : ChanNo) (current : Nat)
deriving DecidableEq, Repr

end Sys2Proof
end

