-- ==== Sys2Proof/Machine/State.lean ====
section
/-! DEFINITION. The state of the SJ6410, block by block as spec/00_scope.md lists them, as plain data; the outcomes that stop a
step; the state after reset. INVENTORY.md names the rule and the reset value of every field. -/

namespace Sys2Proof.Machine

/-- The block has no fault that stops it: every error of the spec is an ordinary next state (a refused request, an isolation, a
fault record, a spoiled frame). So no reason exists, and nobody raises one; that is safe. -/
inductive Fault where
deriving DecidableEq, Repr

/-- Why a command has no next state. -/
inductive Refusal where
  /-- The command has no meaning yet; raised only by `exec`'s own arms (none is left). Safe: nothing is claimed of it. -/
  | notModelled (mnemonic : String)
deriving DecidableEq, Repr

/-- The eight states of the line controller (R19). -/
inductive LineState where
  | offLine | idle | arbitrating | sending | receiving | answering | holding | stuck
deriving DecidableEq, Repr

/-- The six station states (R81). -/
inductive StationState where
  | unconfigured | ready | joining | syncing | joined | isolated
deriving DecidableEq, Repr

/-- The isolation reason (R81, R102); `none` is NONE. -/
inductive IsoReason where
  | none | line | silence | absent | dissent | outvoted | duplicate | mismatch | noSnapshot
deriving DecidableEq, Repr

/-- The eleven channel states (R110). -/
inductive ChState where
  | disabled | off | probing | claiming | waiting | armed | startWait | inrush | run | releasing | faulted
deriving DecidableEq, Repr

/-- Why a channel last left service without the host asking (R108, R129). -/
inductive Reason where
  | noRoom | shed | listFull | absent | hot | supply | stopped | isolated
deriving DecidableEq, Repr

/-- The kinds of fault record (R142). -/
inductive FaultKind where
  | overcurrent | openLoad | probeOpen | probeShort | thermal
deriving DecidableEq, Repr

/-- The temperature states (R147). -/
inductive TempState where
  | normal | warning | shutdown
deriving DecidableEq, Repr

/-- The supply states (R150, R152); a sag episode is open exactly in `sag`. -/
inductive SupplyState where
  | normal | sag | lockout
deriving DecidableEq, Repr

/-- The outcome of a host request (R160). -/
inductive ReqOutcome where
  | accepted | unknown | range | state | busy | disabled | shed | hot | supply | stopped | pair | noGroup | invalid
deriving DecidableEq, Repr

/-- The event flags (R164). -/
inductive Event where
  | isolated | joined | hot | supply | shed | go | note | noteLost | framing
  | fault (channel : ChanNo) | stopped (channel : ChanNo) | started (channel : ChanNo)
deriving DecidableEq, Repr

/-- A channel's configuration items (R107, R161). `olReport` is the open-load action REPORT. -/
structure ChanSettings where
  enable : Bool
  cls : PriClass
  group : GroupNo
  inrush : Nat
  hold : Nat
  inrushTime : Nat
  currentLimit : Nat
  olThreshold : Nat
  olReport : Bool
  probe : Bool
  openCount : Nat
  shortCount : Nat
  faultToPin : Bool
deriving DecidableEq, Repr

/-- The configuration store (R161). -/
structure Settings where
  poolLimit : Nat
  censusCode : Nat
  startSpacing : Nat
  sagCode : Nat
  sagShedding : Bool
  autoRejoin : Bool
  pairLock : Vector Bool 3
  chans : Vector ChanSettings 6
deriving DecidableEq, Repr

/-- Whose slot of the transmit queue an entry occupies (R41). -/
inductive Owner where
  | channel (channel : ChanNo) | membership | shed | go | note
deriving DecidableEq, Repr

/-- What an entry will carry (R40); a SNAPSHOT carries nothing until it wins arbitration (R47). -/
inductive Content where
  | claim (channel : ChanNo) (cls : PriClass) (units : Nat) (group : GroupNo) (wait : Bool)
  | release (channel : ChanNo) (cls : PriClass) (units : Nat) (form : ReleaseForm)
  | shed (form : ShedForm) (level : ShedLevel)
  | go (group : GroupNo)
  | join (terms : Terms)
  | snapshot
  | note (target : Option StationNo) (data : List Byte)
deriving DecidableEq, Repr

/-- An entry of the transmit queue (R40); the kind is its content's. -/
structure Entry where
  owner : Owner
  content : Content
  attempts : Nat
  onLine : Bool
deriving DecidableEq, Repr

/-- The pending STOP action (R42), with the attempt count the line controller keeps for it (R30); target `none` is ALL. -/
structure StopAction where
  target : Option StationNo
  attempts : Nat
  onLine : Bool
deriving DecidableEq, Repr

/-- The pending CENSUS action (R42), with its attempt count (R30). -/
structure CensusAction where
  mode : CensusMode
  attempts : Nat
  onLine : Bool
deriving DecidableEq, Repr

/-- The transmit queue (R40 to R56): the entries oldest first, the line actions, the owed STOP and the deferred raise. -/
structure TxQueue where
  entries : List Entry
  stop : Option StopAction
  stopOwed : Bool
  census : Option CensusAction
  deferredRaise : Bool
deriving DecidableEq, Repr

/-- What an offer carries (R43). -/
inductive Carrier where
  | stop | census | entry (owner : Owner)
deriving DecidableEq, Repr

/-- The header a station is answering and the four bits it writes (R34, R93). -/
structure Answer where
  sender : StationNo
  header : CensusHeader
  joined : Bool
  syncing : Bool
  attention : Bool
  dissent : Bool
deriving DecidableEq, Repr

/-- A received note (R166); target `none` is ALL. -/
structure Note where
  sender : StationNo
  target : Option StationNo
  data : List Byte
deriving DecidableEq, Repr

/-- The line controller (R19 to R37). `offer` stands from the start edge on and is none once the offered entry was removed
before the win (R23); `sentRank` is the kind rank that the arbitration field sends, whatever becomes of the entry (R22, R23).
`passive` marks a RECEIVING controller that reads on without spoiling and without applying (R23, R33), `collided` a SENDING one that has
read another's dominant bit and drives no more (R32).
`holdStuck` remembers a 20 ms hold found during a frame (R36). `heldNotes` are the notes that wait for room, oldest first (R29;
more than one only where a note outlives STUCK, log 8). -/
structure Line where
  state : LineState
  listening : Bool
  offer : Option Carrier
  sentRank : Nat
  ownFrame : Option Frame
  passive : Bool
  collided : Bool
  holdStuck : Bool
  answer : Option Answer
  heldNotes : List Note
deriving DecidableEq, Repr

/-- The membership controller (R81). A timer is stopped, or running for a period in milliseconds. -/
structure Member where
  station : StationState
  reason : IsoReason
  syncCount : Nat
  lastCensus : Maps
  censusTimer : Option Nat
  silenceTimer : Option Nat
  syncTimer : Option Nat
  rejoinTimer : Option Nat
deriving DecidableEq, Repr

/-- The start request a PROBING channel keeps (R108, R112). -/
structure StartRequest where
  group : GroupNo
  wait : Bool
deriving DecidableEq, Repr

/-- A fault record (R142); `stopping` is its severity, `found` the channel's state at detection. -/
structure FaultRecord where
  kind : FaultKind
  stopping : Bool
  time : BitVec 32
  value : Nat
  found : ChState
  repeated : Bool
deriving DecidableEq, Repr

/-- A channel record (R108), less the pending frame, which is the content of the channel's slot; `group` is the group of the grant
it last took, read while ARMED (R115, R120); `olSpent` is the open-load detector's spent mark (R141). -/
structure Channel where
  state : ChState
  counted : Nat
  group : GroupNo
  followUp : Bool
  startReq : Option StartRequest
  inrushTimer : Option Nat
  lastReason : Option Reason
  fault : Option FaultRecord
  lastCurrent : Nat
  olSpent : Bool
deriving DecidableEq, Repr

/-- The channel controller (R108, R121, R123). -/
structure ChanCtl where
  channels : Vector Channel 6
  startQueue : List ChanNo
  spacing : Option Nat
  latch : Bool
deriving DecidableEq, Repr

/-- The probe unit (R131, R132); a window runs exactly while the queue is not empty. -/
structure Probe where
  queue : List ChanNo
  reference : Nat
  load : Nat
deriving DecidableEq, Repr

/-- The station monitor (R147, R150, R156, R157). -/
structure Monitor where
  temperature : TempState
  supply : SupplyState
  clock : BitVec 32
  goTime : BitVec 32
deriving DecidableEq, Repr

/-- The reply to a request (R159): its summary byte, its outcome, its result. -/
structure Reply where
  summary : Byte
  outcome : ReqOutcome
  result : BitVec 16
deriving DecidableEq, Repr

/-- The host port (R158 to R168); `sampled` is the summary byte of the open transaction, from CSN's fall to its rise
(R159); `reply` is what the request of this transaction returned, or, while none is open, that of the last one; `awaitCsn` is a CSN low
since a hard reset, with no transaction counted (R168). -/
structure Port where
  flags : Vector Bool 27
  masks : Vector Bool 27
  notes : List Note
  staging : Vector Byte 16
  reply : Option Reply
  sampled : Option Byte
  softReset : Bool
  awaitCsn : Bool
deriving DecidableEq, Repr

/-- The whole station, and the queue of the commands that wait, first in, first out. -/
structure State where
  number : StationNo
  settings : Settings
  terms : Option Terms
  stopInput : Bool
  pool : Pool
  line : Line
  queue : TxQueue
  member : Member
  chan : ChanCtl
  probe : Probe
  monitor : Monitor
  port : Port
  pending : List Instr
deriving DecidableEq, Repr

/-! ### Reset values -/

/-- An ABSENT row (R4, R17). -/
def absentRow : Row := ⟨false, 0, Vector.replicate 4 0⟩

/-- The empty pool state (R17). -/
def emptyPool : Pool := ⟨0, Vector.replicate 32 absentRow, []⟩

/-- A channel's items after power-on and pin reset (R161). -/
def resetChanSettings : ChanSettings :=
  { enable := false, cls := 0, group := 0, inrush := 1, hold := 0, inrushTime := 1, currentLimit := 1, olThreshold := 0,
    olReport := true, probe := false, openCount := 0, shortCount := 65535, faultToPin := false }

/-- The configuration store after power-on and pin reset (R161). -/
def resetSettings : Settings :=
  { poolLimit := 0, censusCode := 0, startSpacing := 0, sagCode := 0, sagShedding := false, autoRejoin := false,
    pairLock := Vector.replicate 3 false, chans := Vector.replicate 6 resetChanSettings }

/-- The line controller OFF_LINE, driving and holding nothing (R19). -/
def offLine : Line :=
  { state := .offLine, listening := false, offer := none, sentRank := 0, ownFrame := none, passive := false, collided := false,
    holdStuck := false, answer := none, heldNotes := [] }

/-- The empty transmit queue (R56). -/
def emptyQueue : TxQueue := { entries := [], stop := none, stopOwed := false, census := none, deferredRaise := false }

/-- Four clear maps (R82). -/
def clearMaps : Maps := ⟨0, 0, 0, 0⟩

/-- The membership state after power-on and pin reset (R82). -/
def resetMember : Member :=
  { station := .unconfigured, reason := .none, syncCount := 0, lastCensus := clearMaps, censusTimer := none,
    silenceTimer := none, syncTimer := none, rejoinTimer := none }

/-- A channel record after power-on and pin reset (R130, R137). -/
def resetChannel : Channel :=
  { state := .disabled, counted := 0, group := 0, followUp := false, startReq := none, inrushTimer := none, lastReason := none,
    fault := none, lastCurrent := 0, olSpent := false }

/-- The channel controller after power-on and pin reset (R130). -/
def resetChanCtl : ChanCtl :=
  { channels := Vector.replicate 6 resetChannel, startQueue := [], spacing := none, latch := false }

/-- The idle probe unit (R136). -/
def idleProbe : Probe := { queue := [], reference := 0, load := 0 }

/-- The host port after power-on and pin reset (R168). -/
def resetPort : Port :=
  { flags := Vector.replicate 27 false, masks := Vector.replicate 27 true, notes := [], staging := Vector.replicate 16 0#8,
    reply := none, sampled := none, softReset := false, awaitCsn := false }

/-- The machine right after reset. The values the pins have then are the model's (log 1): address 0, STOP released, CSN high,
a die below 125 degrees and a supply not below 15.0 V. -/
def State.reset : State :=
  { number := 0, settings := resetSettings, terms := none, stopInput := false, pool := emptyPool, line := offLine,
    queue := emptyQueue, member := resetMember, chan := resetChanCtl, probe := idleProbe,
    monitor := { temperature := .normal, supply := .normal, clock := 0, goTime := 0 }, port := resetPort, pending := [] }

end Sys2Proof.Machine
end

