-- ==== Sys2Proof/Machine/Ops.lean ====
section
/-! DEFINITION. Named operations over State: one writer for each block, the channel records, the terms in force, and the slots of
the transmit queue (spec/03_the_transmit_queue.md R40 to R46). -/

namespace Sys2Proof.Machine

/-- What one step answers. -/
abbrev Result := Host.Outcome State Fault Refusal

/-! ### One writer for each block -/

def State.withSettings (s : State) (x : Settings) : State := { s with settings := x }
def State.withTerms (s : State) (x : Option Terms) : State := { s with terms := x }
def State.withStopInput (s : State) (x : Bool) : State := { s with stopInput := x }
def State.withPool (s : State) (x : Pool) : State := { s with pool := x }
def State.withLine (s : State) (x : Line) : State := { s with line := x }
def State.withQueue (s : State) (x : TxQueue) : State := { s with queue := x }
def State.withMember (s : State) (x : Member) : State := { s with member := x }
def State.withChan (s : State) (x : ChanCtl) : State := { s with chan := x }
def State.withProbe (s : State) (x : Probe) : State := { s with probe := x }
def State.withMonitor (s : State) (x : Monitor) : State := { s with monitor := x }
def State.withPort (s : State) (x : Port) : State := { s with port := x }
def State.withPending (s : State) (x : List Instr) : State := { s with pending := x }

/-! ### Reading and writing one channel -/

/-- The six channels, in number order. -/
def allChannels : List ChanNo := [0, 1, 2, 3, 4, 5]

def State.channel (s : State) (c : ChanNo) : Channel := s.chan.channels[c]

/-- The committed configuration of a channel (R107). -/
def State.cfg (s : State) (c : ChanNo) : ChanSettings := s.settings.chans[c]

def State.setChannel (s : State) (c : ChanNo) (x : Channel) : State :=
  s.withChan { s.chan with channels := s.chan.channels.set c x }

def State.updChannel (s : State) (c : ChanNo) (f : Channel → Channel) : State :=
  s.setChannel c (f (s.channel c))

/-! ### The terms in force -/

/-- The pool limit the pool engine decides with; 0 before any COMMIT (R2, R11). -/
def State.limit (s : State) : Nat :=
  match s.terms with
  | some t => t.limit
  | none => 0

/-- The census interval I in milliseconds: ten times the code (R2). -/
def State.interval (s : State) : Nat :=
  match s.terms with
  | some t => 10 * t.code
  | none => 0

/-- The terms a frame of this station carries (R47, R49). -/
def State.termsHeld (s : State) : Terms := s.terms.getD ⟨0, 0⟩

/-- The states whose line controller takes part in frames (R81). -/
def StationState.participates : StationState → Bool
  | .joining | .syncing | .joined => true
  | .unconfigured | .ready | .isolated => false

def State.participating (s : State) : Bool := s.member.station.participates

def State.isJoined (s : State) : Bool := decide (s.member.station = .joined)

/-! ### The slots of the transmit queue -/

/-- The entry in an owner's slot (R41). -/
def TxQueue.entryOf (q : TxQueue) (o : Owner) : Option Entry :=
  q.entries.find? fun e => decide (e.owner = o)

/-- Place an entry with attempt count 0, unsent, as the newest; every placement is made into an empty slot (R40, R41). -/
def TxQueue.place (q : TxQueue) (o : Owner) (c : Content) : TxQueue :=
  match q.entryOf o with
  | none => { q with entries := q.entries ++ [{ owner := o, content := c, attempts := 0, onLine := false }] }
  | some _ => q

/-- Rewrite an unsent entry's content; its place and its attempt count stay (R44). -/
def TxQueue.rewrite (q : TxQueue) (o : Owner) (c : Content) : TxQueue :=
  { q with entries := q.entries.map fun e => if e.owner = o ∧ e.onLine = false then { e with content := c } else e }

/-- Remove an owner's unsent entry (R44). -/
def TxQueue.removeUnsent (q : TxQueue) (o : Owner) : TxQueue :=
  { q with entries := q.entries.filter fun e => !(decide (e.owner = o) && !e.onLine) }

/-- Set the on-line flag of an owner's entry (R45, R46). -/
def TxQueue.markOnLine (q : TxQueue) (o : Owner) : TxQueue :=
  { q with entries := q.entries.map fun e => if e.owner = o then { e with onLine := true } else e }

/-- Count a failed attempt of an owner's entry and make it unsent again (R30, R46). -/
def TxQueue.bump (q : TxQueue) (o : Owner) : TxQueue :=
  { q with entries := q.entries.map fun e =>
      if e.owner = o then { e with attempts := e.attempts + 1, onLine := false } else e }

/-- The entries held, on the line or not (R41). -/
def TxQueue.occupancy (q : TxQueue) : Nat := q.entries.length

/-- Whether an owner's slot holds an entry on the line. -/
def TxQueue.frozen (q : TxQueue) (o : Owner) : Bool :=
  match q.entryOf o with
  | some e => e.onLine
  | none => false

def State.place (s : State) (o : Owner) (c : Content) : State := s.withQueue (s.queue.place o c)

def State.rewrite (s : State) (o : Owner) (c : Content) : State := s.withQueue (s.queue.rewrite o c)

/-- Remove an unsent entry; one that is the offer in arbitration leaves the controller with nothing to send (R23, R44). -/
def State.dropEntry (s : State) (o : Owner) : State :=
  let s1 := s.withQueue (s.queue.removeUnsent o)
  if s.line.state = .arbitrating ∧ s.line.offer = some (.entry o) then s1.withLine { s.line with offer := none } else s1

/-- The pending frame field of a channel record (R108): what the channel's slot holds. -/
inductive PendingFrame where
  | none | claim | trim | full | withdraw
deriving DecidableEq, Repr

/-- The channel's pending frame, read from its slot (R108, R55). -/
def State.pendingFrame (s : State) (c : ChanNo) : PendingFrame :=
  match s.queue.entryOf (.channel c) with
  | some e =>
    match e.content with
    | .claim _ _ _ _ _ => .claim
    | .release _ _ _ .trim => .trim
    | .release _ _ _ .full => .full
    | .release _ _ _ .withdraw => .withdraw
    | _ => .none
  | none => .none

/-- The slot of a channel is empty: nothing pending. -/
def State.slotEmpty (s : State) (c : ChanNo) : Bool := (s.queue.entryOf (.channel c)).isNone

end Sys2Proof.Machine
end

