-- ==== Sys2Proof/Machine/PoolEngine.lean ====
section
/-! DEFINITION. The pool engine's changes of the pool state, each a function of the pool state, the pool limit and the frame alone
(spec/01_pool_state.md R4 to R15; spec/04_claims_releases_and_the_wait_list.md R59 to R77; spec/05 R86, R92, R98). -/

namespace Sys2Proof.Machine

/-- The sum of a row's four class totals. -/
def rowSum (r : Row) : Nat := r.totals.toList.sum

/-- The pool sum (R11). -/
def poolSum (p : Pool) : Nat := (p.rows.toList.map rowSum).sum

/-- The free units: pool limit minus pool sum (R11). -/
def freeUnits (limit : Nat) (p : Pool) : Nat := limit - poolSum p

/-- Rewrite every row by its station number. -/
def mapRows (p : Pool) (f : StationNo → Row → Row) : Pool :=
  { p with rows := Vector.ofFn fun i => f i p.rows[i] }

/-- Raise one class total of one row. -/
def addUnits (p : Pool) (n : StationNo) (k : PriClass) (u : Nat) : Pool :=
  let r := p.rows[n]
  { p with rows := p.rows.set n { r with totals := r.totals.set k (r.totals[k] + u) } }

/-- Lower one class total of one row, to 0 where it holds less: the subtraction clamp (R12). -/
def subUnits (p : Pool) (n : StationNo) (k : PriClass) (u : Nat) : Pool :=
  let r := p.rows[n]
  { p with rows := p.rows.set n { r with totals := r.totals.set k (r.totals[k] - u) } }

/-- A row with every class total 0; presence and misses as they were. -/
def clearTotals (r : Row) : Row := { r with totals := Vector.replicate 4 0 }

/-- A PRESENT row holding nothing (R4). -/
def freshRow : Row := ⟨true, 0, Vector.replicate 4 0⟩

/-- The entry is this station's for this channel. -/
def entryIs (n : StationNo) (c : ChanNo) (e : WaitEntry) : Bool := decide (e.station = n) && decide (e.channel = c)

/-- Remove the wait-list entry of a station and channel, if the list holds one (R10). -/
def removeEntry (p : Pool) (n : StationNo) (c : ChanNo) : Pool :=
  { p with waitList := p.waitList.filter fun e => !entryIs n c e }

/-- Remove every wait-list entry of a station (R10). -/
def removeStation (p : Pool) (n : StationNo) : Pool :=
  { p with waitList := p.waitList.filter fun e => decide (e.station ≠ n) }

/-- Wait-list service over a list (R68): grant the head while it fits, stop at the first that does not. Answers the pool with the
rest of the list, and the entries granted, head first. -/
def serveList (limit : Nat) (p : Pool) : List WaitEntry → Pool × List WaitEntry
  | [] => ({ p with waitList := [] }, [])
  | e :: rest =>
    if e.units ≤ freeUnits limit p then
      let r := serveList limit (addUnits p e.station e.cls e.units) rest
      (r.1, e :: r.2)
    else ({ p with waitList := e :: rest }, [])

/-- Wait-list service (R68). -/
def serve (limit : Nat) (p : Pool) : Pool × List WaitEntry := serveList limit p p.waitList

/-- What the pool decides of a CLAIM (R59). -/
inductive ClaimVerdict where
  | granted
  | waiting
  | refused (reason : Reason)
deriving DecidableEq, Repr

/-- The decision of a CLAIM against a pool state, its tests in order (R59). -/
def decideClaim (limit : Nat) (p : Pool) (n : StationNo) (k : PriClass) (u : Nat) (wait : Bool) : ClaimVerdict :=
  if p.rows[n].present = false then .refused .absent
  else if k < p.level then .refused .shed
  else if p.waitList = [] ∧ u ≤ freeUnits limit p then .granted
  else if wait then (if p.waitList.length < Config.waitCapacity then .waiting else .refused .listFull)
  else .refused .noRoom

/-- The change a decided CLAIM makes (R60, R61, R62). -/
def applyVerdict (p : Pool) (n : StationNo) (c : ChanNo) (k : PriClass) (u : Nat) (g : GroupNo) :
    ClaimVerdict → Pool
  | .granted => addUnits p n k u
  | .waiting => { p with waitList := p.waitList ++ [⟨n, c, k, u, g⟩] }
  | .refused _ => p

/-- Applying a CLAIM (R59 to R63): the stale entry goes first, the decision is made against the list that is left, and service
runs only after a stale removal. Answers the pool, the verdict and the entries service granted. -/
def applyClaim (limit : Nat) (p : Pool) (n : StationNo) (c : ChanNo) (k : PriClass) (u : Nat) (g : GroupNo) (wait : Bool) :
    Pool × ClaimVerdict × List WaitEntry :=
  let p1 := removeEntry p n c
  let v := decideClaim limit p1 n k u wait
  let p2 := applyVerdict p1 n c k u g v
  if p.waitList.any (entryIs n c) then
    let r := serve limit p2
    (r.1, v, r.2)
  else (p2, v, [])

/-- Applying a RELEASE TRIM or FULL (R65). -/
def applyRelease (limit : Nat) (p : Pool) (n : StationNo) (k : PriClass) (u : Nat) : Pool × List WaitEntry :=
  serve limit (subUnits p n k u)

/-- Applying a RELEASE WITHDRAW (R66). -/
def applyWithdraw (limit : Nat) (p : Pool) (n : StationNo) (c : ChanNo) : Pool × List WaitEntry :=
  serve limit (removeEntry p n c)

/-- Every class below a level becomes 0 (R7, R72). -/
def zeroBelow (l : ShedLevel) (r : Row) : Row :=
  { r with totals := Vector.ofFn fun k => if k < l then 0 else r.totals[k] }

/-- A SHED that raises the level (R72). -/
def raiseLevel (p : Pool) (l : ShedLevel) : Pool :=
  { mapRows p (fun _ r => zeroBelow l r) with
    level := l
    waitList := p.waitList.filter fun e => decide (l ≤ e.cls) }

/-- Applying a SHED SET (R72, R73): a rise sheds and runs no service; any other level is set and service runs. -/
def applyShedSet (limit : Nat) (p : Pool) (l : ShedLevel) : Pool × List WaitEntry :=
  if p.level < l then (raiseLevel p l, []) else serve limit { p with level := l }

/-- Applying a STOP for ALL (R76). -/
def applyStopAll (limit : Nat) (p : Pool) : Pool × List WaitEntry :=
  serve limit { mapRows p (fun _ r => clearTotals r) with waitList := [] }

/-- Applying a STOP for one station (R77). -/
def applyStopStation (limit : Nat) (p : Pool) (n : StationNo) : Pool × List WaitEntry :=
  serve limit (removeStation { p with rows := p.rows.set n (clearTotals p.rows[n]) } n)

/-- Applying a JOIN with equal terms at a member (R86). -/
def applyJoin (limit : Nat) (p : Pool) (n : StationNo) : Pool × List WaitEntry :=
  serve limit (removeStation { p with rows := p.rows.set n freshRow } n)

/-- Whether a timed census drops a row: it is PRESENT, its joined bit is clear, and it would reach four misses (R98). -/
def dropped (joined : BitVec 32) (n : StationNo) (r : Row) : Bool :=
  r.present && !joined.getLsbD n.val && decide (Config.maxMisses ≤ r.misses)

/-- What a timed census makes of one row (R5, R98). -/
def countMiss (joined : BitVec 32) (n : StationNo) (r : Row) : Row :=
  if r.present then
    if joined.getLsbD n.val then { r with misses := 0 }
    else if dropped joined n r then absentRow
    else { r with misses := r.misses + 1 }
  else r

/-- The misses and drops of a timed census (R98); service runs once if a row was dropped (R69). -/
def applyMisses (limit : Nat) (p : Pool) (joined : BitVec 32) : Pool × List WaitEntry :=
  let p1 := { mapRows p (countMiss joined) with
    waitList := p.waitList.filter fun e => !dropped joined e.station p.rows[e.station] }
  if (List.finRange 32).any (fun n => dropped joined n p.rows[n]) then serve limit p1 else (p1, [])

/-- The pool state that a founding census gives (R92). -/
def foundedPool (syncing : BitVec 32) : Pool :=
  mapRows emptyPool fun n _ => if syncing.getLsbD n.val then freshRow else absentRow

/-- A snapshot that shows a station PRESENT and holding nothing (R87). -/
def showsFresh (p : Pool) (n : StationNo) : Bool :=
  p.rows[n].present && decide (rowSum p.rows[n] = 0) && p.waitList.all fun e => decide (e.station ≠ n)

end Sys2Proof.Machine
end

