-- ==== Sys2Proof/Machine/Ranges.lean ====
section
/-! DEFINITION. Which frame bodies are in range (spec/02_the_share_line.md R25, R39). A frame out of range is malformed: its
receivers spoil it and no station applies it. -/

namespace Sys2Proof.Machine

/-- The ranges of the two pool terms (R39). -/
def termsInRange (t : Terms) : Bool :=
  decide (1 ≤ t.limit) && decide (t.limit ≤ 4095) && decide (5 ≤ t.code) && decide (t.code ≤ 255)

/-- A snapshot row: every class total at most 4095, misses at most 3, and an ABSENT row all zero (R25). -/
def rowInRange (r : Row) : Bool :=
  decide (r.misses ≤ 3)
    && r.totals.toList.all (fun n => decide (n ≤ 4095))
    && (r.present || (decide (r.misses = 0) && r.totals.toList.all (fun n => decide (n = 0))))

/-- A wait-list entry of a snapshot: its units are 1 to 255 (R8, R25); the other fields are in range by their types. -/
def entryInRange (e : WaitEntry) : Bool :=
  decide (1 ≤ e.units) && decide (e.units ≤ 255)

/-- The pool state a SNAPSHOT carries (R25, R39). -/
def poolInRange (p : Pool) : Bool :=
  p.rows.toList.all rowInRange && decide (p.waitList.length ≤ 24) && p.waitList.all entryInRange

/-- Every body field within the range R39 gives for it. -/
def frameInRange : Frame → Bool
  | .stop _ => true
  | .census h => termsInRange h.terms
  | .shed .set _ => true
  | .shed .raise p => decide (p.val ≤ 2)
  | .release _ _ u _ => decide (u ≤ 255)
  | .snapshot t p => termsInRange t && poolInRange p
  | .join t => termsInRange t
  | .go g => decide (1 ≤ g.val)
  | .claim _ _ u _ _ => decide (1 ≤ u) && decide (u ≤ 255)
  | .note _ d => decide (1 ≤ d.length) && decide (d.length ≤ 16)

/-- The frame whose acceptance a command reports, with its sender (R27); none for the commands that are no accepted frame. -/
def frameOf : Instr → Option (StationNo × Frame)
  | .claim s c k u g w => some (s, .claim c k u g w)
  | .release s c k u full => some (s, .release c k u (if full then .full else .trim))
  | .withdraw s c k u => some (s, .release c k u .withdraw)
  | .goApplied s g => some (s, .go g)
  | .shedSet s l => some (s, .shed .set l)
  | .shedRaise s p => some (s, .shed .raise p)
  | .stopAll s => some (s, .stop none)
  | .stopStation s t => some (s, .stop (some t))
  | .note s t d => some (s, .note t d)
  | .join s t => some (s, .join t)
  | .snapshot s t p => some (s, .snapshot t p)
  | .census s h _ => some (s, .census h)
  | .censusAnswerField s h => some (s, .census h)
  | _ => none

/-- The request codes of R159's table. -/
def knownCodes : List Byte :=
  [0x01#8, 0x02#8, 0x03#8, 0x10#8, 0x11#8, 0x12#8, 0x13#8, 0x20#8, 0x21#8, 0x22#8, 0x23#8, 0x30#8, 0x31#8, 0x32#8, 0x33#8,
   0x40#8, 0x50#8, 0x51#8, 0x7F#8]

end Sys2Proof.Machine
end

