-- ==== Sys2Proof/Machine/Wire.lean ====
section
/-! DEFINITION. The share-line frame on the wire: body bytes, digest, check, the bits a sender drives and what a receiver makes of
them; the wired AND, arbitration on it, and the census answer field (spec/01_pool_state.md R13; spec/02_the_share_line.md R18, R22,
R24, R25, R34, R39). A bit is true where it is recessive, which stands for 1 (R18). -/

namespace Sys2Proof.Machine

/-- One bit through the 16-bit check register (R13): generator x^16 + x^12 + x^5 + 1. -/
def crcBit (reg : BitVec 16) (b : Bool) : BitVec 16 :=
  if reg.msb ^^ b then (reg <<< 1) ^^^ 0x1021#16 else reg <<< 1

/-- The check of a bit sequence, from all ones (R13). -/
def crc (bits : List Bool) : BitVec 16 := bits.foldl crcBit 0xFFFF#16

/-- A byte's bits, most significant first. -/
def byteBits (b : Byte) : List Bool :=
  [b.getLsbD 7, b.getLsbD 6, b.getLsbD 5, b.getLsbD 4, b.getLsbD 3, b.getLsbD 2, b.getLsbD 1, b.getLsbD 0]

/-- The bits of a byte sequence, in the order sent. -/
def bytesBits (bs : List Byte) : List Bool := bs.flatMap byteBits

def byteOf (n : Nat) : Byte := BitVec.ofNat 8 n

/-- A two-byte quantity, high byte first (R39). -/
def wordBytes (n : Nat) : List Byte := [byteOf (n / 256), byteOf n]

/-- A row's ten bytes (R13). -/
def rowBytes (r : Row) : List Byte :=
  byteOf r.present.toNat :: byteOf r.misses :: r.totals.toList.flatMap wordBytes

/-- A wait-list entry's five bytes (R13). -/
def entryBytes (e : WaitEntry) : List Byte :=
  [byteOf e.station.val, byteOf e.channel.val, byteOf e.cls.val, byteOf e.units, byteOf e.group.val]

/-- The byte sequence that encodes the pool state (R13). -/
def poolBytes (p : Pool) : List Byte :=
  byteOf p.level.val :: p.rows.toList.flatMap rowBytes
    ++ byteOf p.waitList.length :: p.waitList.flatMap entryBytes

/-- The digest of a pool state (R13). -/
def digest (p : Pool) : BitVec 16 := crc (bytesBits (poolBytes p))

/-- The kind rank sent in the arbitration field (R39). -/
def frameRank : Frame → Nat
  | .stop _ => 0
  | .census _ => 1
  | .shed _ _ => 2
  | .release _ _ _ _ => 3
  | .snapshot _ _ => 4
  | .join _ => 5
  | .go _ => 6
  | .claim _ _ _ _ _ => 7
  | .note _ _ => 8

/-- A target byte: a station number, or FFh for ALL (R39). -/
def targetByte : Option StationNo → Byte
  | some n => byteOf n.val
  | none => 0xFF#8

def termsBytes (t : Terms) : List Byte := wordBytes t.limit ++ [byteOf t.code]

/-- The body bytes of a frame (R39). -/
def frameBody : Frame → List Byte
  | .stop t => [targetByte t]
  | .census h =>
    byteOf (match h.mode with | .timed => 0 | .asked => 1) :: termsBytes h.terms ++ wordBytes h.digest.toNat
  | .shed f l => [byteOf (match f with | .set => 0 | .raise => 1), byteOf l.val]
  | .release c k u f =>
    [byteOf c.val, byteOf k.val, byteOf u, byteOf (match f with | .trim => 0 | .full => 1 | .withdraw => 2)]
  | .snapshot t p => termsBytes t ++ poolBytes p
  | .join t => termsBytes t
  | .go g => [byteOf g.val]
  | .claim c k u g w => [byteOf c.val, byteOf k.val, byteOf u, byteOf g.val, byteOf w.toNat]
  | .note t d => targetByte t :: byteOf d.length :: d

/-- A number's lowest `n` bits, most significant first. -/
def natBits : Nat → Nat → List Bool
  | 0, _ => []
  | n + 1, x => x.testBit n :: natBits n x

/-- The arbitration field: the kind rank in four bits, then the sender number in five (R22). -/
def arbitrationBits (rank : Nat) (sender : StationNo) : List Bool := natBits 4 rank ++ natBits 5 sender.val

/-- The pair that arbitration compares, as one number: lower rank first, then lower station number (R22). -/
def arbitrationKey (rank : Nat) (sender : StationNo) : Nat := 32 * rank + sender.val

/-- What a sender drives after the start bit: arbitration field, body, check, and the dominant end bit (R24, R39). -/
def frameBits (sender : StationNo) (f : Frame) : List Bool :=
  let covered := arbitrationBits (frameRank f) sender ++ bytesBits (frameBody f)
  covered ++ natBits 16 (crc covered).toNat ++ [false]

/-! ### The wire -/

/-- The level of an open-drain wire from what each station puts out: recessive only while no station pulls it (R18). -/
def wireLevel (outs : List Bool) : Bool := outs.all id

/-- A wire over `n` bit times, from the bits of every station that drives it; a station with no bit left leaves it free (R18). -/
def wireBits (n : Nat) (outs : List (List Bool)) : List Bool := (List.range n).map fun i => wireLevel (outs.map fun o => o.getD i true)

/-! ### Arbitration -/

/-- What a sender reads back of the bits it sends on SHD (R22, R32, R33). -/
inductive FieldOutcome where
  /-- Every bit read back as sent: the end is reached. -/
  | won
  /-- Dominant was read where recessive was sent. -/
  | lost
  /-- Recessive was read where dominant was sent: the driver does not pull the wire. -/
  | fault
deriving DecidableEq, Repr

/-- The bits sent against the bits read, one at a time; the first that differs decides (R22, R32, R33). -/
def readField : List Bool → List Bool → FieldOutcome
  | sent :: field, read :: rest => if sent = read then readField field rest else if sent then .lost else .fault
  | _, _ => .won

/-- SHD over `n` bits while several stations send these bits at once: at each bit the wired AND, after which those that sent recessive and
read dominant drive no more, be it a lost arbitration or a collision of twins (R18, R22, R32). -/
def contend : Nat → List (List Bool) → List Bool
  | 0, _ => []
  | n + 1, fields =>
    let level := wireLevel (fields.map fun f => f.headD true)
    level :: contend n ((fields.filter fun f => f.headD true == level).map List.tail)

/-! ### The census answer field -/

/-- A station map on SHD: stations 0 to 31 in that order, dominant for a set bit (R34). -/
def mapBits (x : BitVec 32) : List Bool := (List.finRange 32).map fun i => !x.getLsbD i.val

/-- The answer field of four maps: joined, syncing, attention, dissent (R34, R39). -/
def mapsBits (m : Maps) : List Bool := mapBits m.joined ++ mapBits m.syncing ++ mapBits m.attention ++ mapBits m.dissent

/-- A station map read from its 32 bits (R34). -/
def readMap (bits : List Bool) : BitVec 32 := BitVec.ofFnLE fun i : Fin 32 => !bits.getD i.val true

/-- The four maps read from the answer field (R34, R35). -/
def readMaps (bits : List Bool) : Maps :=
  ⟨readMap bits, readMap (bits.drop 32), readMap (bits.drop 64), readMap (bits.drop 96)⟩

/-- What SHD carries of an accepted frame, from the start bit to the last spoil slot (R39): a dominant start bit, the sender's bits, a
recessive slot, and for a CENSUS the answer field of these maps and the recessive second slot. -/
def shdBits (sender : StationNo) (f : Frame) (m : Maps) : List Bool :=
  false :: frameBits sender f ++ true :: (match f with | .census _ => mapsBits m ++ [true] | _ => [])

/-- The bit times from start bit to the last spoil slot (R39): 28 outside the body, and 129 more for a CENSUS. -/
def frameTime (f : Frame) : Nat :=
  28 + 8 * (frameBody f).length + (match f with | .census _ => 129 | _ => 0)

/-! ### Receiving -/

def readTarget (b : Byte) : Option (Option StationNo) :=
  if b = 0xFF#8 then some none
  else if h : b.toNat < 32 then some (some ⟨b.toNat, h⟩) else none

def readFin (n : Nat) (b : Byte) : Option (Fin n) :=
  if h : b.toNat < n then some ⟨b.toNat, h⟩ else none

def readWord (hi lo : Byte) : Nat := 256 * hi.toNat + lo.toNat

def readTerms (hi lo code : Byte) : Terms := ⟨readWord hi lo, code.toNat⟩

def readBool (b : Byte) : Option Bool :=
  if b = 0#8 then some false else if b = 1#8 then some true else none

/-- One row from its ten bytes (R13, R39). -/
def readRow : List Byte → Option Row
  | [p, m, a1, a0, b1, b0, c1, c0, d1, d0] =>
    match readBool p with
    | some present =>
      some ⟨present, m.toNat, #v[readWord a1 a0, readWord b1 b0, readWord c1 c0, readWord d1 d0]⟩
    | none => none
  | _ => none

/-- The rows from their bytes, in number order: answers `n` rows and the bytes left. -/
def readRows : Nat → List Byte → Option (List Row × List Byte)
  | 0, bs => some ([], bs)
  | n + 1, bs =>
    match readRow (bs.take 10), readRows n (bs.drop 10) with
    | some r, some (rs, rest) => some (r :: rs, rest)
    | _, _ => none

/-- Wait-list entries from their bytes; every byte must belong to one. -/
def readEntries : List Byte → Option (List WaitEntry)
  | [] => some []
  | n :: c :: k :: u :: g :: rest =>
    match readFin 32 n, readFin 6 c, readFin 4 k, readFin 16 g, readEntries rest with
    | some n, some c, some k, some g, some es => some (⟨n, c, k, u.toNat, g⟩ :: es)
    | _, _, _, _, _ => none
  | _ => none

/-- A pool state from the byte order of the digest (R13). -/
def readPool : List Byte → Option Pool
  | l :: bs =>
    match readFin 4 l, readRows 32 bs with
    | some level, some (rows, len :: rest) =>
      match readEntries rest with
      | some es =>
        if h : rows.length = 32 then
          if es.length = len.toNat then some ⟨level, ⟨rows.toArray, by simpa using h⟩, es⟩ else none
        else none
      | none => none
    | _, _ => none
  | [] => none

/-- The frame that a rank and a whole body spell, ranges not yet checked; none where a field or the length is wrong (R25, R39). -/
def readBody (rank : Nat) (body : List Byte) : Option Frame :=
  match rank, body with
  | 0, [t] => (readTarget t).map .stop
  | 1, [m, hi, lo, code, d1, d0] =>
    (readBool m).map fun asked =>
      .census ⟨if asked then .asked else .timed, readTerms hi lo code, BitVec.ofNat 16 (readWord d1 d0)⟩
  | 2, [f, l] =>
    match readBool f, readFin 4 l with
    | some raise, some l => some (.shed (if raise then .raise else .set) l)
    | _, _ => none
  | 3, [c, k, u, f] =>
    match readFin 6 c, readFin 4 k, readFin 3 f with
    | some c, some k, some f => some (.release c k u.toNat (match f with | 0 => .trim | 1 => .full | 2 => .withdraw))
    | _, _, _ => none
  | 4, hi :: lo :: code :: rest => (readPool rest).map fun p => .snapshot (readTerms hi lo code) p
  | 5, [hi, lo, code] => some (.join (readTerms hi lo code))
  | 6, [g] => (readFin 16 g).map .go
  | 7, [c, k, u, g, w] =>
    match readFin 6 c, readFin 4 k, readFin 16 g, readBool w with
    | some c, some k, some g, some w => some (.claim c k u.toNat g w)
    | _, _, _, _ => none
  | 8, t :: len :: d =>
    match readTarget t with
    | some t => if d.length = len.toNat then some (.note t d) else none
    | none => none
  | _, _ => none

/-- A body a receiver finds well formed: it spells a frame whose fields are in range (R25). -/
def receiveBody (rank : Nat) (body : List Byte) : Option Frame :=
  match readBody rank body with
  | some f => if frameInRange f then some f else none
  | none => none

/-- The number that a bit sequence spells, most significant first. -/
def bitsNat (bs : List Bool) : Nat := bs.foldl (fun n b => 2 * n + b.toNat) 0

/-- Whole bytes from a bit sequence; bits past the last whole byte are dropped. -/
def bitsBytes : List Bool → List Byte
  | a :: b :: c :: d :: e :: f :: g :: h :: rest => byteOf (bitsNat [a, b, c, d, e, f, g, h]) :: bitsBytes rest
  | _ => []

/-- The body length a receiver works out from the kind and the length field the kind carries (R24); none for rank 9 and above. A
length field out of range gives the largest body of the kind (R25). -/
def bodyLength (rank : Nat) (bytes : List Byte) : Option Nat :=
  match rank with
  | 0 => some 1
  | 1 => some 6
  | 2 => some 2
  | 3 => some 4
  | 4 =>
    match bytes[324]? with
    | some n => some (325 + 5 * min n.toNat 24)
    | none => none
  | 5 => some 3
  | 6 => some 1
  | 7 => some 5
  | 8 =>
    match bytes[1]? with
    | some m => some (2 + if m.toNat = 0 then 16 else min m.toNat 16)
    | none => none
  | _ => none

/-- What a receiver makes of the bits after the start bit, up to and with the end bit (R25): the sender and the frame, or none
where it finds the frame malformed and drives the spoil slot (R26). -/
def receiveBits (bits : List Bool) : Option (StationNo × Frame) :=
  let rank := bitsNat (bits.take 4)
  let sender := bitsNat ((bits.drop 4).take 5)
  let rest := bits.drop 9
  match bodyLength rank (bitsBytes rest) with
  | none => none
  | some n =>
    let check := (rest.drop (8 * n)).take 16
    if rest.drop (8 * n + 16) = [false] ∧ check = natBits 16 (crc (bits.take (9 + 8 * n))).toNat then
      match receiveBody rank ((bitsBytes rest).take n) with
      | some f => if h : sender < 32 then some (⟨sender, h⟩, f) else none
      | none => none
    else none

end Sys2Proof.Machine
end

