-- ==== Sys2Proof/Decode.lean ====
section
/-! DEFINITION. Decoding. spec/opcode_table.json gives no row any bits, so no word spells a command; what the spec does encode
is the host request: four bytes of code, index and value, taken bit by bit from SDI (spec/09_host_port.md R158, R159), decoded and
encoded here. -/

namespace Sys2Proof

/-- No row of the table gives bits: no word spells a command. -/
def decodeTableWord (_nbits _w : Nat) : Option Instr := none

/-- The request that a code, an index and a value spell (R159); an unlisted code is UNKNOWN (R170). -/
def decodeRequest (code index : Byte) (value : BitVec 16) : Instr :=
  match code.toNat with
  | 0x01 => .setItem index value
  | 0x02 => .commit
  | 0x03 => .start
  | 0x10 => .on index value
  | 0x11 => .arm index value
  | 0x12 => .off index
  | 0x13 => .clearFault index
  | 0x20 => .go index
  | 0x21 => .setShed index
  | 0x22 => .poolStop
  | 0x23 => .stationStop index
  | 0x30 => .stageNoteByte index value
  | 0x31 => .sendNote index value
  | 0x32 => .readNoteByte index
  | 0x33 => .dropNote
  | 0x40 => .readItem index value
  | 0x50 => .nextEvent
  | 0x51 => .setMask index value
  | 0x7F => .softReset
  | _ => .unknown code

/-- The code, index and value of a host request (R159); bytes that a request does not examine are sent as 0. A command that is
no request has none. -/
def encodeRequest : Instr → Option (Byte × Byte × BitVec 16)
  | .setItem i v => some (0x01#8, i, v)
  | .commit => some (0x02#8, 0#8, 0#16)
  | .start => some (0x03#8, 0#8, 0#16)
  | .on i v => some (0x10#8, i, v)
  | .arm i v => some (0x11#8, i, v)
  | .off i => some (0x12#8, i, 0#16)
  | .clearFault i => some (0x13#8, i, 0#16)
  | .go i => some (0x20#8, i, 0#16)
  | .setShed i => some (0x21#8, i, 0#16)
  | .poolStop => some (0x22#8, 0#8, 0#16)
  | .stationStop i => some (0x23#8, i, 0#16)
  | .stageNoteByte i v => some (0x30#8, i, v)
  | .sendNote i v => some (0x31#8, i, v)
  | .readNoteByte i => some (0x32#8, i, 0#16)
  | .dropNote => some (0x33#8, 0#8, 0#16)
  | .readItem i v => some (0x40#8, i, v)
  | .nextEvent => some (0x50#8, 0#8, 0#16)
  | .setMask i v => some (0x51#8, i, v)
  | .softReset => some (0x7F#8, 0#8, 0#16)
  | .unknown c => some (c, 0#8, 0#16)
  | _ => none

/-- The request byte after whose last bit a request is decided (R158, R159): 2 or 4. A code the port does not know is decided
at the second byte. -/
def decisionByte (code : Byte) : Nat :=
  if code.toNat = 0x01 ∨ code.toNat = 0x10 ∨ code.toNat = 0x11 ∨ code.toNat = 0x30 ∨ code.toNat = 0x31 ∨ code.toNat = 0x40
      ∨ code.toNat = 0x51 then 4 else 2

/-- What the bits taken from SDI during one transaction decide (R158): nothing before the decision point of their code; the value is
its high byte and its low byte, and a code decided at the second byte examines none (R159). Bits past the 32nd begin no second
request. -/
def decidedBy (sdi : List Bool) : Option Instr :=
  match Machine.bitsBytes (sdi.take 32) with
  | code :: index :: high :: low :: _ => some (decodeRequest code index (high ++ low))
  | code :: index :: _ => if decisionByte code = 2 then some (decodeRequest code index 0) else none
  | _ => none

end Sys2Proof
end

