-- ==== Sys2Proof/Machine/Flags.lean ====
section
/-! DEFINITION. Event flags and masks, and the outputs that follow State at every moment: ATTN, FAULT, OUT0 to OUT5, SHH and the
summary byte (spec/09_host_port.md R159, R164; spec/06_output_channels.md R110; spec/07 R146; spec/02 R28). -/

namespace Sys2Proof.Machine

/-- The flag's number, which is its priority (R164). -/
def Event.number : Event → Fin 27
  | .isolated => 0
  | .joined => 1
  | .hot => 2
  | .supply => 3
  | .shed => 4
  | .go => 5
  | .note => 6
  | .noteLost => 7
  | .framing => 8
  | .fault c => ⟨9 + c.val, by omega⟩
  | .stopped c => ⟨15 + c.val, by omega⟩
  | .started c => ⟨21 + c.val, by omega⟩

/-- Raise an event: its flag becomes pending, whatever its mask (R164). -/
def State.raise (s : State) (e : Event) : State :=
  s.withPort { s.port with flags := s.port.flags.set e.number true }

/-- The pending, unmasked flag with the lowest number (R165). -/
def Port.nextFlag (p : Port) : Option (Fin 27) :=
  (List.finRange 27).find? fun i => p.flags[i] && !p.masks[i]

/-- ATTN is active while a flag is pending and unmasked (R164). -/
def State.attn (s : State) : Bool := s.port.nextFlag.isSome

/-- The FAULT output (R146). -/
def State.faultOutput (s : State) : Bool :=
  (allChannels.any fun c => (s.channel c).fault.isSome && (s.cfg c).faultToPin)
    || decide (s.monitor.temperature = .shutdown)

/-- Whether a channel's output is driven: OUT0 to OUT5 (R110, R124). -/
def State.driven (s : State) (c : ChanNo) : Bool :=
  s.isJoined && !s.chan.latch &&
    match (s.channel c).state with
    | .inrush => decide ((s.cfg c).inrush ≤ (s.channel c).counted)
    | .run => decide ((s.cfg c).hold ≤ (s.channel c).counted)
    | _ => false

/-- Whether the station drives SHH between two commands: it has not finished taking a NOTE (R28, R29). -/
def State.drivesHold (s : State) : Bool :=
  decide (s.line.state = .holding) && !s.line.heldNotes.isEmpty

/-- The code of the station state (R159). -/
def StationState.code : StationState → Nat
  | .unconfigured => 0
  | .ready => 1
  | .joining => 2
  | .syncing => 3
  | .joined => 4
  | .isolated => 5

/-- The summary byte (R159). -/
def State.summary (s : State) : Byte :=
  BitVec.ofNat 8
    (128 * s.attn.toNat + 64 * s.faultOutput.toNat + 8 * s.member.station.code + 4 * (!s.port.notes.isEmpty).toNat
      + 2 * (decide (s.monitor.temperature = .shutdown)).toNat + (decide (s.monitor.supply = .lockout)).toNat)

/-- The outcome byte (R160). -/
def ReqOutcome.code : ReqOutcome → Byte
  | .accepted => 0x00
  | .unknown => 0x01
  | .range => 0x02
  | .state => 0x03
  | .busy => 0x04
  | .disabled => 0x05
  | .shed => 0x06
  | .hot => 0x07
  | .supply => 0x08
  | .stopped => 0x09
  | .pair => 0x0A
  | .noGroup => 0x0B
  | .invalid => 0x0C

/-- The four reply bytes, in the order sent (R159). -/
def Reply.bytes (r : Reply) : List Byte :=
  [r.summary, r.outcome.code, BitVec.ofNat 8 (r.result.toNat / 256), BitVec.ofNat 8 r.result.toNat]

end Sys2Proof.Machine
end

