-- ==== Sys2Proof/Machine/Queue.lean ====
section
/-! DEFINITION. The transmit queue's own behaviour: the choice of the offer, what is frozen at the win, stop requests, sag raises,
and what the report of an accepted frame does (spec/03_the_transmit_queue.md R43 to R53). -/

namespace Sys2Proof.Machine

/-- The kind rank an entry is sent with (R39, R40). -/
def contentRank : Content → Nat
  | .shed _ _ => 2
  | .release _ _ _ _ => 3
  | .snapshot => 4
  | .join _ => 5
  | .go _ => 6
  | .claim _ _ _ _ _ => 7
  | .note _ _ => 8

/-- The oldest entry among those of the lowest kind rank (R43). -/
def oldestLowest : List Entry → Option Entry
  | [] => none
  | e :: rest =>
    match oldestLowest rest with
    | none => some e
    | some b => if contentRank b.content < contentRank e.content then some b else some e

/-- The offer at an opportunity (R43): the STOP action, then the CENSUS action, then an entry. -/
def TxQueue.offer (q : TxQueue) : Option Carrier :=
  if q.stop.isSome then some .stop
  else if q.census.isSome then some .census
  else (oldestLowest q.entries).map fun e => .entry e.owner

/-- The frame an entry's content becomes at the win; a SNAPSHOT samples the pool state then (R23, R47). -/
def freeze (s : State) : Content → Frame
  | .claim c k u g w => .claim c k u g w
  | .release c k u f => .release c k u f
  | .shed f l => .shed f l
  | .go g => .go g
  | .join t => .join t
  | .snapshot => .snapshot s.termsHeld s.pool
  | .note t d => .note t d

/-- The header a CENSUS carries, sampled at the win (R14, R47). -/
def censusHeader (s : State) (m : CensusMode) : CensusHeader :=
  ⟨m, s.termsHeld, match m with | .timed => digest s.pool | .asked => 0⟩

/-- The body read at the win, for what is offered; none where it is no longer there (R23, R45). -/
def frozenBody (s : State) : Carrier → Option Frame
  | .stop => s.queue.stop.map fun a => .stop a.target
  | .census => s.queue.census.map fun a => .census (censusHeader s a.mode)
  | .entry o => (s.queue.entryOf o).map fun e => freeze s e.content

/-- The on-line flag set at the win (R46). -/
def setOnLine (q : TxQueue) : Carrier → TxQueue
  | .stop => { q with stop := q.stop.map fun a => { a with onLine := true } }
  | .census => { q with census := q.census.map fun a => { a with onLine := true } }
  | .entry o => q.markOnLine o

/-! ### Stop requests (R50) -/

/-- A stop request for ALL. -/
def requestStopAll (q : TxQueue) : TxQueue :=
  match q.stop with
  | none => { q with stop := some ⟨none, 0, false⟩ }
  | some a =>
    match a.target with
    | none => q
    | some _ => if a.onLine then { q with stopOwed := true } else { q with stop := some { a with target := none } }

/-- A stop request for one station; none is refused BUSY. -/
def requestStopStation (q : TxQueue) (n : StationNo) : Option TxQueue :=
  match q.stop with
  | none => some { q with stop := some ⟨some n, 0, false⟩ }
  | some a =>
    match a.target with
    | none => some q
    | some m => if n = m then some q else none

/-- The withdrawal of a pending STOP action that another station's STOP covers (R51). -/
def withdrawStop (q : TxQueue) (applied : Option StationNo) : TxQueue :=
  match q.stop with
  | none => q
  | some a =>
    if a.onLine = false ∧ (applied = none ∨ applied = a.target) then { q with stop := none } else q

/-- The withdrawal of a pending CENSUS action that is not on the line (R48). -/
def withdrawCensus (q : TxQueue) : TxQueue :=
  match q.census with
  | none => q
  | some a => if a.onLine then q else { q with census := none }

/-- Set the CENSUS action; one already pending stays as it was (R48). -/
def setCensus (q : TxQueue) (m : CensusMode) : TxQueue :=
  match q.census with
  | none => { q with census := some ⟨m, 0, false⟩ }
  | some _ => q

/-- The withdrawal of an unsent SNAPSHOT (R49). A SNAPSHOT entry is what the membership slot of a JOINED station holds. -/
def withdrawSnapshot (s : State) : State :=
  match s.queue.entryOf .membership with
  | some e => if e.content = .snapshot then s.dropEntry .membership else s
  | none => s

/-! ### The shed slot (R52, R53) -/

/-- SET_SHED meets the shed slot; none is refused BUSY (R52). -/
def requestShed (s : State) (l : ShedLevel) : Option State :=
  match s.queue.entryOf .shed with
  | none => some (s.place .shed (.shed .set l))
  | some e => if e.onLine then none else some (s.rewrite .shed (.shed .set l))

/-- A sag raise, with the current level as prior (R53). -/
def sagRaise (s : State) : State :=
  if s.pool.level = 3 then s
  else
    match s.queue.entryOf .shed with
    | none => s.place .shed (.shed .raise s.pool.level)
    | some e =>
      if e.onLine then s.withQueue { s.queue with deferredRaise := true }
      else
        match e.content with
        | .shed .set l => if s.pool.level < l then s else s.rewrite .shed (.shed .raise s.pool.level)
        | _ => s.rewrite .shed (.shed .raise s.pool.level)

/-- A deferred raise is acted on when the SHED on the line ends (R53). -/
def settleRaise (s : State) : State :=
  if s.queue.deferredRaise then sagRaise (s.withQueue { s.queue with deferredRaise := false }) else s

/-! ### Accepted frames of one's own (R46) -/

/-- The queue with what was on the line removed; an owed STOP becomes the pending action (R46, R50). -/
def removeAccepted (q : TxQueue) : TxQueue :=
  let stopSent := q.stop.any fun a => a.onLine
  { q with
    entries := q.entries.filter fun e => !e.onLine
    stop := if stopSent then (if q.stopOwed then some ⟨none, 0, false⟩ else none) else q.stop
    stopOwed := if stopSent then false else q.stopOwed
    census := if q.census.any fun a => a.onLine then none else q.census }

/-- The report that the station's own frame was accepted (R46): its entry or action is removed, and a raise deferred behind an
accepted SHED is taken (R53). -/
def reportAccepted (own : Bool) (s : State) : State :=
  if own then settleRaise (s.withQueue (removeAccepted s.queue)) else s

end Sys2Proof.Machine
end

