-- ==== Sys2Proof/Machine/Channels.lean ====
section
/-! DEFINITION. The channel controller: starts, releases, follow-ups, the outcomes of the pool, faults and retirement
(spec/06_output_channels.md R112 to R129), with the fault records of output supervision (spec/07 R142 to R145) and the probe
queue's departures (R131, R135). -/

namespace Sys2Proof.Machine

/-- The in-service states, PROBING through RUN (R110). -/
def ChState.inService : ChState → Bool
  | .probing | .claiming | .waiting | .armed | .startWait | .inrush | .run => true
  | .disabled | .off | .releasing | .faulted => false

/-! ### Frames a channel places -/

/-- A RELEASE FULL of all a channel's counted units (R113). -/
def fullOf (s : State) (c : ChanNo) : Content := .release c (s.cfg c).cls (s.channel c).counted .full

def placeFull (s : State) (c : ChanNo) : State := s.place (.channel c) (fullOf s c)

def rewriteFull (s : State) (c : ChanNo) : State := s.rewrite (.channel c) (fullOf s c)

/-- A RELEASE WITHDRAW: channel, class, 0 units (R113). -/
def placeWithdraw (s : State) (c : ChanNo) : State :=
  s.place (.channel c) (.release c (s.cfg c).cls 0 .withdraw)

/-- The CLAIM of a start request (R112). -/
def placeClaim (s : State) (c : ChanNo) (r : StartRequest) : State :=
  s.place (.channel c) (.claim c (s.cfg c).cls (s.cfg c).inrush r.group r.wait)

/-! ### Starting -/

/-- Entry to INRUSH (R122, R129). -/
def enterInrush (s : State) (c : ChanNo) : State :=
  (s.updChannel c fun x => { x with state := .inrush, inrushTimer := some (10 * (s.cfg c).inrushTime) }).raise (.started c)

/-- The spacing timer once a head has started: running for the start spacing, or not started where that is 0 (R121). -/
def spacingPeriod (s : State) : Option Nat :=
  if 0 < s.settings.startSpacing then some s.settings.startSpacing else none

/-- The head of the start queue starts (R121). -/
def startHead (s : State) : State :=
  match s.chan.startQueue with
  | [] => s
  | c :: rest => enterInrush (s.withChan { s.chan with startQueue := rest, spacing := spacingPeriod s }) c

/-- A channel joins the tail of the start queue; the head starts at once if the timer is stopped and the latch clear (R121). -/
def joinStartQueue (s : State) (c : ChanNo) : State :=
  let s1 := s.withChan { s.chan with startQueue := s.chan.startQueue ++ [c] }
  if s.chan.spacing = none ∧ s.chan.latch = false then startHead s1 else s1

/-- A channel leaves the start queue; the others move up (R121). -/
def leaveStartQueue (s : State) (c : ChanNo) : State :=
  s.withChan { s.chan with startQueue := s.chan.startQueue.filter fun d => decide (d ≠ c) }

/-- A channel leaves the probe queue. If it is the head its measurement ends and both counters are set to 0, from where a new
head's window starts (R131, R132, R135). -/
def leaveProbe (s : State) (c : ChanNo) : State :=
  let q := s.probe.queue.filter fun d => decide (d ≠ c)
  if s.probe.queue.head? = some c then s.withProbe { queue := q, reference := 0, load := 0 }
  else s.withProbe { s.probe with queue := q }

/-- A channel joins the tail of the probe queue (R112, R131); in an empty queue its window starts from counts of 0 (R132). -/
def joinProbe (s : State) (c : ChanNo) : State :=
  if s.probe.queue = [] then s.withProbe { queue := [c], reference := 0, load := 0 }
  else s.withProbe { s.probe with queue := s.probe.queue ++ [c] }

/-! ### Leaving service: OFF, a stopping fault, retirement -/

/-- A driving channel stops and gives its units back (R113, R125, R127): `busy` is the state it takes while a release is pending
or owed, `idle` the state where it has nothing to give back. -/
def stopDriving (s : State) (c : ChanNo) (busy idle : ChState) : State :=
  let x := s.channel c
  match s.queue.entryOf (.channel c) with
  | none =>
    if x.state = .inrush ∨ 0 < x.counted then
      (placeFull s c).setChannel c { x with state := busy, inrushTimer := none }
    else s.setChannel c { x with state := idle, inrushTimer := none }
  | some e =>
    if e.onLine then s.setChannel c { x with state := busy, inrushTimer := none, followUp := true }
    else (rewriteFull s c).setChannel c { x with state := busy, inrushTimer := none }

/-- A channel in service is taken out of it, its units or its claim on their way back (the table of R113, which R127 shares). -/
def leaveService (s : State) (c : ChanNo) : State :=
  let x := s.channel c
  match x.state with
  | .probing => (leaveProbe s c).setChannel c { x with startReq := none, state := .off }
  | .claiming =>
    if s.queue.frozen (.channel c) then s.setChannel c { x with state := .releasing, followUp := true }
    else (s.dropEntry (.channel c)).setChannel c { x with state := .off }
  | .waiting => (placeWithdraw s c).setChannel c { x with state := .releasing }
  | .armed => (placeFull s c).setChannel c { x with state := .releasing }
  | .startWait => (placeFull (leaveStartQueue s c) c).setChannel c { x with state := .releasing }
  | .inrush | .run => stopDriving s c .releasing .off
  | .disabled | .off | .releasing | .faulted => s

/-! ### Fault records (R142, R143, R145) -/

/-- A fault is found on a channel: the record is written, replaced or marked repeated, and FAULT is raised. A stopping record
stays as it is. -/
def writeRecord (s : State) (c : ChanNo) (kind : FaultKind) (stopping : Bool) (value : Nat) (found : ChState) : State :=
  let fresh (again : Bool) : FaultRecord := ⟨kind, stopping, s.monitor.clock, value, found, again⟩
  let put (r : FaultRecord) : State := (s.updChannel c fun x => { x with fault := some r }).raise (.fault c)
  match (s.channel c).fault with
  | none => put (fresh false)
  | some r =>
    if r.stopping then s
    else if stopping then put (fresh true)
    else put { r with repeated := true }

/-- A stopping fault on a driving channel (R125): its output goes off, its units go back, it is FAULTED, STOPPED is raised. -/
def faultChannel (s : State) (c : ChanNo) : State := (stopDriving s c .faulted .faulted).raise (.stopped c)

/-! ### Outcomes of the pool -/

/-- A grant that a channel takes (R115): START_WAIT and the start queue for group 0, else ARMED. -/
def takeGrant (s : State) (c : ChanNo) (u : Nat) (g : GroupNo) : State :=
  if g = 0 then joinStartQueue (s.updChannel c fun x => { x with counted := u, group := g, state := .startWait }) c
  else s.updChannel c fun x => { x with counted := u, group := g, state := .armed }

/-- Whether a channel's slot holds an unsent WITHDRAW (R115). -/
def withdrawUnsent (s : State) (c : ChanNo) : Bool :=
  s.pendingFrame c = .withdraw && !s.queue.frozen (.channel c)

/-- The granted outcome (R115, R114); `fromList` is the source wait list. A CLAIMING channel's own CLAIM was accepted exactly when
its slot is empty. -/
def grantedOutcome (s : State) (c : ChanNo) (u : Nat) (g : GroupNo) (fromList : Bool) : State :=
  let x := s.channel c
  match x.state, fromList with
  | .claiming, false => if s.slotEmpty c then takeGrant s c u g else s
  | .waiting, true => takeGrant s c u g
  | .releasing, false =>
    if x.followUp then placeFull (s.setChannel c { x with counted := u, followUp := false }) c else s
  | .releasing, true =>
    if withdrawUnsent s c then rewriteFull (s.setChannel c { x with counted := u }) c else s
  | _, _ => s

/-- The waiting outcome (R116, R114). -/
def waitingOutcome (s : State) (c : ChanNo) : State :=
  let x := s.channel c
  match x.state with
  | .claiming => if s.slotEmpty c then s.setChannel c { x with state := .waiting } else s
  | .releasing => if x.followUp then placeWithdraw (s.setChannel c { x with followUp := false }) c else s
  | _ => s

/-- The refused outcome (R116, R114). -/
def refusedOutcome (s : State) (c : ChanNo) (r : Reason) : State :=
  let x := s.channel c
  match x.state with
  | .claiming =>
    if s.slotEmpty c then (s.setChannel c { x with state := .off, lastReason := some r }).raise (.stopped c) else s
  | .releasing =>
    if x.followUp then s.setChannel c { x with state := .off, lastReason := some r, followUp := false } else s
  | _ => s

/-- The outcome of this station's CLAIM (R58). -/
def claimOutcome (s : State) (c : ChanNo) (u : Nat) (g : GroupNo) : ClaimVerdict → State
  | .granted => grantedOutcome s c u g false
  | .waiting => waitingOutcome s c
  | .refused r => refusedOutcome s c r

/-- The grants of wait-list service that name this station, in service order (R70). -/
def grantOutcomes (s : State) : List WaitEntry → State
  | [] => s
  | e :: rest =>
    grantOutcomes (if e.station = s.number then grantedOutcome s e.channel e.units e.group true else s) rest

/-- What a RELEASING or FAULTED channel does once its own release was applied (R114, R117): a follow-up is settled, units still
counted are released by a FULL, and a RELEASING channel with none is OFF. -/
def afterRelease (s : State) (c : ChanNo) : State :=
  let x := s.channel c
  let s1 := s.setChannel c { x with followUp := false }
  match x.state with
  | .releasing =>
    if x.followUp || s.slotEmpty c then
      if 0 < x.counted then placeFull s1 c else s1.updChannel c fun y => { y with state := .off }
    else s
  | .faulted =>
    if x.followUp || s.slotEmpty c then (if 0 < x.counted then placeFull s1 c else s1) else s
  | _ => s

/-- The release applied outcome (R117): TRIM and FULL lower the counted units, down to 0 at the least. -/
def releaseOutcome (s : State) (c : ChanNo) (u : Nat) (f : ReleaseForm) : State :=
  match f with
  | .trim | .full => afterRelease (s.updChannel c fun x => { x with counted := x.counted - u }) c
  | .withdraw => afterRelease s c

/-- A shed or a stop takes one channel out of service with counted units 0 (the common rows of R118 and R119). -/
def sweepChannel (s : State) (c : ChanNo) (r : Reason) : State :=
  let x := s.channel c
  match x.state with
  | .disabled | .off => s
  | .faulted => (s.dropEntry (.channel c)).setChannel c { x with counted := 0 }
  | .probing =>
    ((leaveProbe s c).setChannel c { x with startReq := none, state := .off, lastReason := some r }).raise (.stopped c)
  | .releasing => (s.dropEntry (.channel c)).setChannel c { x with counted := 0, state := .off }
  | .claiming | .waiting | .armed | .startWait | .inrush | .run =>
    ((leaveStartQueue (s.dropEntry (.channel c)) c).setChannel c
      { x with counted := 0, state := .off, inrushTimer := none, lastReason := some r }).raise (.stopped c)

/-- The shed outcome at one channel (R118). -/
def shedChannel (l : ShedLevel) (s : State) (c : ChanNo) : State :=
  if (s.cfg c).cls < l then sweepChannel s c .shed else s

/-- The shed outcome (R118). -/
def shedOutcome (s : State) (l : ShedLevel) : State := allChannels.foldl (shedChannel l) s

/-- The stopped outcome (R119): every channel, the start queue and the spacing timer; the latch clears for ALL (R124). -/
def stoppedOutcome (s : State) (all : Bool) : State :=
  let s1 := allChannels.foldl (fun t c => sweepChannel t c .stopped) s
  s1.withChan { s1.chan with startQueue := [], spacing := none, latch := if all then false else s1.chan.latch }

/-- Whether a channel is ARMED in a group: that of the grant that armed it (R115, R120). -/
def armedIn (s : State) (g : GroupNo) (c : ChanNo) : Bool :=
  decide ((s.channel c).state = .armed) && decide ((s.channel c).group = g)

/-- The go outcome (R120): the ARMED channels of the group enter INRUSH, and the spacing timer restarts where the spacing is above
0, also where no channel here was ARMED in the group (log 9); while the latch is set nothing happens. -/
def goOutcome (s : State) (g : GroupNo) : State :=
  if s.chan.latch = false then
    let s1 := (allChannels.filter (armedIn s g)).foldl enterInrush s
    if 0 < s.settings.startSpacing then s1.withChan { s1.chan with spacing := some s.settings.startSpacing } else s1
  else s

/-! ### Spoils -/

/-- A follow-up settled at the spoil of the channel's frame (R114): the unsent CLAIM is removed and the channel is OFF; the unsent
TRIM becomes a FULL. -/
def settleSpoil (s : State) (c : ChanNo) : State :=
  let x := s.channel c
  if x.followUp then
    if s.pendingFrame c = .claim then
      (s.dropEntry (.channel c)).setChannel c { x with state := .off, followUp := false }
    else (rewriteFull s c).setChannel c { x with followUp := false }
  else s

/-! ### Retirement -/

/-- Retirement of one channel with reason HOT or SUPPLY (R127). -/
def retireChannel (r : Reason) (s : State) (c : ChanNo) : State :=
  let x := s.channel c
  if x.state.inService then
    let s1 :=
      if r = .hot ∧ (x.state = .inrush ∨ x.state = .run) then
        writeRecord (stopDriving s c .faulted .faulted) c .thermal true x.lastCurrent x.state
      else leaveService s c
    (s1.updChannel c fun y => { y with lastReason := some r }).raise (.stopped c)
  else s

/-- Retirement with reason HOT or SUPPLY (R127). In what order it places the releases of several channels, by which R43 offers them, the
spec leaves open: the model takes the channels in number order (log 24). -/
def retire (s : State) (r : Reason) : State := allChannels.foldl (retireChannel r) s

/-- One channel's record at retirement with reason ISOLATED (R128). -/
def isolatedChannel (x : Channel) : Channel :=
  { x with
    state := if x.state = .faulted ∨ x.state = .disabled then x.state else .off
    counted := 0
    followUp := false
    startReq := none
    inrushTimer := none
    lastReason := if x.state.inService then some .isolated else x.lastReason }

/-- STOPPED for every channel that was in service (R128, R129). -/
def raiseStopped (s : State) : State :=
  allChannels.foldl (fun t c => if (s.channel c).state.inService then t.raise (.stopped c) else t) s

/-- Retirement with reason ISOLATED (R128); the queue is emptied beside it (R103). -/
def retireIsolated (s : State) : State :=
  (raiseStopped s).withChan
    { channels := Vector.ofFn fun c => isolatedChannel s.chan.channels[c], startQueue := [], spacing := none, latch := false }

end Sys2Proof.Machine
end

