-- ==== Sys2Proof/Machine/Operands.lean ====
section
/-! DEFINITION. The operand forms of the host requests: channel, station and flag numbers in an index byte, the items of the
configuration store with their ranges (spec/09_host_port.md R161), the readable items with their selectors (R163), the fields of
the head note (R166). -/

namespace Sys2Proof.Machine

/-- A number below `n` carried in a byte; none outside the range. -/
def indexFin (n : Nat) (b : Byte) : Option (Fin n) :=
  if h : b.toNat < n then some ⟨b.toNat, h⟩ else none

/-- A selector below `n` carried in the value (R163). -/
def selectFin (n : Nat) (v : BitVec 16) : Option (Fin n) :=
  if h : v.toNat < n then some ⟨v.toNat, h⟩ else none

/-- A flag carried in a value: 0 or 1. -/
def valueFlag (v : BitVec 16) : Option Bool :=
  if v.toNat = 0 then some false else if v.toNat = 1 then some true else none

/-- A note's target in an index byte: 0 to 31, or FFh for ALL (R159). -/
def noteTarget (b : Byte) : Option (Option StationNo) :=
  if b.toNat = 0xFF then some none
  else (indexFin 32 b).map some

/-! ### The configuration store -/

/-- A value within a range, or none. -/
def within (lo hi v : Nat) : Option Nat := if lo ≤ v ∧ v ≤ hi then some v else none

/-- An on/off item's value. -/
def onOff (v : Nat) : Option Bool := if v = 0 then some false else if v = 1 then some true else none

/-- One channel item written by its number (R161); none where the number names no item or the value is out of its range. -/
def setChanItem (x : ChanSettings) (n v : Nat) : Option ChanSettings :=
  match n with
  | 0 => (onOff v).map fun b => { x with enable := b }
  | 1 => if h : v < 4 then some { x with cls := ⟨v, h⟩ } else none
  | 2 => if h : v < 16 then some { x with group := ⟨v, h⟩ } else none
  | 3 => (within 1 255 v).map fun u => { x with inrush := u }
  | 4 => (within 0 255 v).map fun u => { x with hold := u }
  | 5 => (within 1 255 v).map fun u => { x with inrushTime := u }
  | 6 => (within 1 200 v).map fun u => { x with currentLimit := u }
  | 7 => (within 0 250 v).map fun u => { x with olThreshold := u }
  | 8 => (onOff v).map fun b => { x with olReport := b }
  | 9 => (onOff v).map fun b => { x with probe := b }
  | 10 => (within 0 65535 v).map fun u => { x with openCount := u }
  | 11 => (within 0 65535 v).map fun u => { x with shortCount := u }
  | 12 => (onOff v).map fun b => { x with faultToPin := b }
  | _ => none

/-- One configuration item written by its index (R161); none is RANGE. -/
def setStoreItem (st : Settings) (index v : Nat) : Option Settings :=
  match index with
  | 0x00 => (within 1 4095 v).map fun u => { st with poolLimit := u }
  | 0x01 => (within 5 255 v).map fun u => { st with censusCode := u }
  | 0x02 => (within 0 255 v).map fun u => { st with startSpacing := u }
  | 0x03 => (within 0 10 v).map fun u => { st with sagCode := u }
  | 0x04 => (onOff v).map fun b => { st with sagShedding := b }
  | 0x05 => (onOff v).map fun b => { st with autoRejoin := b }
  | 0x06 => (onOff v).map fun b => { st with pairLock := st.pairLock.set 0 b }
  | 0x07 => (onOff v).map fun b => { st with pairLock := st.pairLock.set 1 b }
  | 0x08 => (onOff v).map fun b => { st with pairLock := st.pairLock.set 2 b }
  | _ =>
    if h : 0x10 ≤ index ∧ index < 0x70 then
      let c : ChanNo := ⟨(index - 0x10) / 16, by omega⟩
      (setChanItem st.chans[c] ((index - 0x10) % 16) v).map fun x => { st with chans := st.chans.set c x }
    else none

/-- The index of a channel item (R161). -/
def chanItemIndex (c : ChanNo) (n : Nat) : Nat := 0x10 + 16 * c.val + n

/-- The first of one channel's items that COMMIT finds inconsistent (R162). -/
def badChanItem (limit : Nat) (x : ChanSettings) (c : ChanNo) : Option Nat :=
  if limit < x.inrush then some (chanItemIndex c 3)
  else if x.inrush < x.hold then some (chanItemIndex c 4)
  else if x.probe ∧ x.shortCount ≤ x.openCount then some (chanItemIndex c 11)
  else none

/-- The first item that COMMIT finds inconsistent, in the order of R162; none is a consistent store. -/
def badItem (st : Settings) : Option Nat :=
  if st.poolLimit < 1 ∨ 4095 < st.poolLimit then some 0x00
  else if st.censusCode < 5 ∨ 255 < st.censusCode then some 0x01
  else allChannels.findSome? fun c => badChanItem st.poolLimit st.chans[c] c

/-- The other channel of a channel's pair (R107). -/
def partner (c : ChanNo) : ChanNo :=
  if h : c.val % 2 = 0 then ⟨c.val + 1, by omega⟩ else ⟨c.val - 1, by omega⟩

/-- The pair lock of a channel's pair (R107). -/
def State.pairLocked (s : State) (c : ChanNo) : Bool := s.settings.pairLock[c.val / 2]

/-- The sag threshold in millivolts (R152). -/
def State.sagThreshold (s : State) : Nat := 17000 + 500 * s.settings.sagCode

/-! ### Codes that the host reads (R163) -/

def ChState.code : ChState → Nat
  | .disabled => 0
  | .off => 1
  | .probing => 2
  | .claiming => 3
  | .waiting => 4
  | .armed => 5
  | .startWait => 6
  | .inrush => 7
  | .run => 8
  | .releasing => 9
  | .faulted => 10

def Reason.code : Reason → Nat
  | .noRoom => 1
  | .shed => 2
  | .listFull => 3
  | .absent => 4
  | .hot => 5
  | .supply => 6
  | .stopped => 7
  | .isolated => 8

def FaultKind.code : FaultKind → Nat
  | .overcurrent => 1
  | .openLoad => 2
  | .probeOpen => 3
  | .probeShort => 4
  | .thermal => 5

def IsoReason.code : IsoReason → Nat
  | .none => 0
  | .line => 1
  | .silence => 2
  | .absent => 3
  | .dissent => 4
  | .outvoted => 5
  | .duplicate => 6
  | .mismatch => 7
  | .noSnapshot => 8

def TempState.code : TempState → Nat
  | .normal => 0
  | .warning => 1
  | .shutdown => 2

def SupplyState.code : SupplyState → Nat
  | .normal => 0
  | .sag => 1
  | .lockout => 2

/-- The high half of a 32-bit quantity. -/
def highHalf (x : BitVec 32) : BitVec 16 := x.extractLsb' 16 16

/-- The low half of a 32-bit quantity. -/
def lowHalf (x : BitVec 32) : BitVec 16 := x.extractLsb' 0 16

def word (n : Nat) : BitVec 16 := BitVec.ofNat 16 n

/-- Items 05h to 0Bh: a field of a channel's fault record, 0 where it holds none (R163). -/
def faultField (r : Option FaultRecord) (f : FaultRecord → BitVec 16) : BitVec 16 :=
  match r with
  | some x => f x
  | none => 0

/-- The items 01h to 0Bh, by channel (R163). -/
def readChannelItem (x : Channel) (index : Nat) : Option (BitVec 16) :=
  match index with
  | 0x01 => some (word x.state.code)
  | 0x02 => some (word x.counted)
  | 0x03 => some (match x.lastReason with | some r => word r.code | none => 0)
  | 0x04 => some (word x.lastCurrent)
  | 0x05 => some (faultField x.fault fun r => word r.kind.code)
  | 0x06 => some (faultField x.fault fun r => word (!r.stopping).toNat)
  | 0x07 => some (faultField x.fault fun r => word r.found.code)
  | 0x08 => some (faultField x.fault fun r => word r.repeated.toNat)
  | 0x09 => some (faultField x.fault fun r => word r.value)
  | 0x0A => some (faultField x.fault fun r => highHalf r.time)
  | 0x0B => some (faultField x.fault fun r => lowHalf r.time)
  | _ => none

/-- The items 20h to 25h, by row (R163). -/
def readRowItem (r : Row) (index : Nat) : Option (BitVec 16) :=
  match index with
  | 0x20 => some (word r.present.toNat)
  | 0x21 => some (word r.misses)
  | 0x22 => some (word r.totals[0])
  | 0x23 => some (word r.totals[1])
  | 0x24 => some (word r.totals[2])
  | 0x25 => some (word r.totals[3])
  | _ => none

/-- The items 29h to 2Dh, by wait-list entry (R163). -/
def readEntryItem (e : WaitEntry) (index : Nat) : Option (BitVec 16) :=
  match index with
  | 0x29 => some (word e.station.val)
  | 0x2A => some (word e.channel.val)
  | 0x2B => some (word e.cls.val)
  | 0x2C => some (word e.units)
  | 0x2D => some (word e.group.val)
  | _ => none

/-- The items that take no selector (R163). -/
def readPlainItem (s : State) (index : Nat) : Option (BitVec 16) :=
  match index with
  | 0x10 => some (word s.member.station.code)
  | 0x11 => some (word s.member.reason.code)
  | 0x12 => some (word s.pool.level.val)
  | 0x13 => some (word (poolSum s.pool))
  | 0x14 => some (word (freeUnits s.limit s.pool))
  | 0x15 => some (word s.limit)
  | 0x16 => some (word s.number.val)
  | 0x17 => some (word s.queue.occupancy)
  | 0x18 => some (word s.monitor.temperature.code)
  | 0x19 => some (word s.monitor.supply.code)
  | 0x28 => some (word s.pool.waitList.length)
  | 0x30 => some (lowHalf s.member.lastCensus.joined)
  | 0x31 => some (highHalf s.member.lastCensus.joined)
  | 0x32 => some (lowHalf s.member.lastCensus.syncing)
  | 0x33 => some (highHalf s.member.lastCensus.syncing)
  | 0x34 => some (lowHalf s.member.lastCensus.attention)
  | 0x35 => some (highHalf s.member.lastCensus.attention)
  | 0x36 => some (lowHalf s.member.lastCensus.dissent)
  | 0x37 => some (highHalf s.member.lastCensus.dissent)
  | 0x38 => some (highHalf s.monitor.goTime)
  | 0x39 => some (lowHalf s.monitor.goTime)
  | 0x3A => some (highHalf s.monitor.clock)
  | 0x3B => some (lowHalf s.monitor.clock)
  | _ => none

/-- READ_ITEM's result; none is RANGE (R163, R182). -/
def readItemValue (s : State) (index : Byte) (sel : BitVec 16) : Option (BitVec 16) :=
  let i := index.toNat
  if 0x01 ≤ i ∧ i ≤ 0x0B then (selectFin 6 sel).bind fun c => readChannelItem (s.channel c) i
  else if 0x20 ≤ i ∧ i ≤ 0x25 then (selectFin 32 sel).bind fun n => readRowItem s.pool.rows[n] i
  else if 0x29 ≤ i ∧ i ≤ 0x2D then s.pool.waitList[sel.toNat]?.bind fun e => readEntryItem e i
  else readPlainItem s i

/-- One field of a note by its position (R166); none is RANGE. -/
def readNoteField (n : Note) (position : Byte) : Option (BitVec 16) :=
  if position.toNat = 0x10 then some (word (256 * n.sender.val + n.data.length))
  else if position.toNat = 0x11 then
    some (match n.target with | some t => word t.val | none => 0x00FF)
  else if position.toNat < 0x10 then (n.data[position.toNat]?).map fun b => word b.toNat
  else none

end Sys2Proof.Machine
end

