-- ==== Sys2Proof/Machine/Port.lean ====
section
/-! DEFINITION. How the host port answers a request (spec/09_host_port.md R158 to R160, R168; spec/10_host_requests.md R170), and
the station after each reset (R82, R130, R136, R149, R154, R156, R157, R168, R183). -/

namespace Sys2Proof.Machine

/-- The summary byte of this transaction (R159): the one sampled when CSN fell, or the present one where CSN's fall and the decision
are one event (log 6), as where the transaction that is open has had its decision. -/
def State.transactionSummary (s : State) : Byte :=
  match s.port.sampled, s.port.reply with
  | some b, none => b
  | _, _ => s.summary

/-- The reply fixed at the decision point, its summary sampled before the request took effect (R159); CSN is low. -/
def answered (s t : State) (o : ReqOutcome) (result : BitVec 16) : State :=
  t.withPort { t.port with reply := some ⟨s.transactionSummary, o, result⟩, sampled := some s.transactionSummary }

/-! ### SDO -/

/-- The level of CSN (R158, R168): low in a transaction, and from a hard reset with CSN low until it rises. -/
def State.csnLow (s : State) : Bool := s.port.sampled.isSome || s.port.awaitCsn

/-- The bits that SDO shifts out for a reply, in the order sent (R158, R159). -/
def Reply.bits (r : Reply) : List Bool := bytesBits r.bytes

/-- The bits of this transaction's reply that are fixed by now: the summary from CSN's fall on, all from the decision on (R159). -/
def State.replyBits (s : State) : List Bool :=
  match s.port.sampled, s.port.reply with
  | some _, some r => r.bits
  | some b, none => byteBits b
  | none, _ => []

/-- What SDO carries. -/
inductive SdoLevel where
  /-- SDO is not driven. -/
  | released
  | drives (bit : Bool)
  /-- SDO carries a bit that the spec does not give (log 26). -/
  | unstated
deriving DecidableEq, Repr

/-- SDO at the bit numbered `i` of a transaction, 0 the first (R158, R159): released while CSN is high, else the reply's bit, most
significant first. A bit that is not fixed when it is shifted, and one past the reply, the spec does not give (log 26). -/
def State.sdo (s : State) (i : Nat) : SdoLevel :=
  if s.csnLow then (match s.replyBits[i]? with | some b => .drives b | none => .unstated) else .released

/-! ### Requests and transactions -/

/-- The commands of one transaction (R158): CSN falls, the bits taken from SDI decide a request or none, CSN rises. -/
def transaction (sdi : List Bool) (die : Int) (vs : Nat) : List Instr :=
  .transactionEnd .fall die vs :: ((decidedBy sdi).toList ++ [.transactionEnd (.rise sdi.length) die vs])

/-- The station with a whole transaction of the host waiting, behind what waits already (R158). -/
def State.withTransaction (s : State) (sdi : List Bool) (die : Int) (vs : Nat) : State :=
  s.withPending (s.pending ++ transaction sdi die vs)

/-- A refused request leaves the station as it was; its result is 0 (R160, R170). -/
def refuse (s : State) (o : ReqOutcome) : Result := .next (answered s s o 0)

/-- A taken request, with result 0 (R160). -/
def accept (s t : State) : Result := .next (answered s t .accepted 0)

/-- A taken request that returns a value (R160). -/
def acceptValue (s t : State) (v : BitVec 16) : Result := .next (answered s t .accepted v)

/-- A request is decided, unless CSN has been low since a hard reset: no transaction is counted then (R168). -/
def request (s : State) (decided : Result) : Result := if s.port.awaitCsn then .next s else decided

/-- The temperature state that a reset sets from the die temperature (R149). -/
def temperatureAt (die : Int) : TempState :=
  if 150 ≤ die then .shutdown else if 125 ≤ die then .warning else .normal

/-- The supply state that a reset sets from the supply, in millivolts (R154). -/
def supplyAt (vs : Nat) : SupplyState := if vs < 15000 then .lockout else .normal

/-- The station after power-on or pin reset, with the pins as sampled (R168). -/
def hardReset (p : PinSample) (s : State) : State :=
  { State.reset with
    number := p.address
    stopInput := p.stopAsserted
    monitor := { temperature := temperatureAt p.die, supply := supplyAt p.vs, clock := 0, goTime := 0 }
    port := { resetPort with awaitCsn := p.csnLow }
    pending := s.pending }

/-- A channel after soft reset (R130, R137): OFF where its committed enable is on; the measurement goes on. No rule says what becomes of
the open-load detector's spent mark (R141): that it is cleared with the rest of the record is the model's choice (log 25). -/
def softChannel (committed : Bool) (cfg : ChanSettings) (x : Channel) : Channel :=
  { resetChannel with
    state := if committed && cfg.enable then .off else .disabled
    lastCurrent := x.lastCurrent }

/-- The station after soft reset (R168, R183): the store, the station number, the terms, the masks, the staging buffer, the station
clock and the GO time are kept, the temperature and supply states are set anew. -/
def softReset (die : Int) (vs : Nat) (s : State) : State :=
  { State.reset with
    number := s.number
    settings := s.settings
    terms := s.terms
    stopInput := s.stopInput
    member := { resetMember with station := if s.terms.isSome then .ready else .unconfigured }
    chan := { resetChanCtl with
      channels := Vector.ofFn fun c => softChannel s.terms.isSome s.settings.chans[c] s.chan.channels[c] }
    monitor := { temperature := temperatureAt die, supply := supplyAt vs, clock := s.monitor.clock, goTime := s.monitor.goTime }
    port := { resetPort with masks := s.port.masks, staging := s.port.staging, reply := s.port.reply }
    pending := s.pending }

end Sys2Proof.Machine
end

