-- ==== Sys2Proof/Machine/HostChannels.lean ====
section
/-! DEFINITION. Meanings: ON, ARM, OFF, CLEAR_FAULT (spec/06_output_channels.md R111 to R113, R126; spec/10 R173 to R175). -/

namespace Sys2Proof.Machine

/-- A partner that does not keep the request refused PAIR (R111). -/
def partnerIdle (s : State) (c : ChanNo) : Bool :=
  match (s.channel (partner c)).state with
  | .off | .disabled | .faulted => true
  | _ => false

/-- The refusals 2 to 10 of ON and ARM, in order (R111); none: the request is taken. -/
def startRefusal (s : State) (c : ChanNo) (arm : Bool) : Option ReqOutcome :=
  if (s.channel c).state = .disabled then some .disabled
  else if s.member.station ≠ .joined then some .state
  else if (s.channel c).state ≠ .off then some .state
  else if arm = true ∧ (s.cfg c).group = 0 then some .noGroup
  else if s.monitor.temperature = .shutdown then some .hot
  else if s.monitor.supply = .lockout then some .supply
  else if s.chan.latch = true ∨ s.stopInput = true then some .stopped
  else if (s.cfg c).cls < s.pool.level then some .shed
  else if s.pairLocked c = true ∧ partnerIdle s c = false then some .pair
  else none

/-- A taken ON or ARM (R112): with probe on the channel joins the probe queue, else its CLAIM is placed. -/
def startChannel (s : State) (c : ChanNo) (r : StartRequest) : State :=
  let x := s.channel c
  if (s.cfg c).probe then
    joinProbe (s.setChannel c { x with state := .probing, startReq := some r, lastReason := none }) c
  else placeClaim (s.setChannel c { x with state := .claiming, startReq := none, lastReason := none }) c r

/-- ON and ARM share their checks and their effect but for the group of the start request (R111, R112, R173). -/
def startRequest (arm : Bool) (index : Byte) (value : BitVec 16) (s : State) : Result :=
  match indexFin 6 index, valueFlag value with
  | some c, some wait =>
    match startRefusal s c arm with
    | some o => refuse s o
    | none => accept s (startChannel s c ⟨if arm then (s.cfg c).group else 0, wait⟩)
  | _, _ => refuse s .range

/-- ON (R111, R112). -/
def execOn (index : Byte) (value : BitVec 16) (s : State) : Result := request s (startRequest false index value s)

/-- ARM (R111, R112). -/
def execArm (index : Byte) (value : BitVec 16) (s : State) : Result := request s (startRequest true index value s)

/-- OFF (R113, R174): RANGE, DISABLED, else taken in every state. -/
def execOff (index : Byte) (s : State) : Result :=
  request s <|
    match indexFin 6 index with
    | none => refuse s .range
    | some c => if (s.channel c).state = .disabled then refuse s .disabled else accept s (leaveService s c)

/-- The effect of a taken CLEAR_FAULT (R126): the record goes; a FAULTED channel goes to OFF, or to RELEASING while a FULL is
pending or a follow-up owed. -/
def clearFault (s : State) (c : ChanNo) : State :=
  let x := s.channel c
  s.setChannel c
    { x with
      fault := none
      state :=
        if x.state = .faulted then
          (if s.slotEmpty c = true ∧ x.followUp = false ∧ x.counted = 0 then .off else .releasing)
        else x.state }

/-- CLEAR_FAULT, its checks in order (R126, R175). -/
def execClearFault (index : Byte) (s : State) : Result :=
  request s <|
    match indexFin 6 index with
    | none => refuse s .range
    | some c =>
      if (s.channel c).state = .disabled then refuse s .disabled
      else
        match (s.channel c).fault with
        | none => refuse s .state
        | some r =>
          if s.monitor.temperature = .shutdown ∧ r.kind = .thermal then refuse s .hot else accept s (clearFault s c)

end Sys2Proof.Machine
end

