-- ==== Sys2Proof/Machine/Membership.lean ====
section
/-! DEFINITION. The membership controller's shared operations: entering JOINING, isolation, adoption, founding, and how a census is
evaluated (spec/05_membership_and_census.md). -/

namespace Sys2Proof.Machine

/-- Whether a reason lets the rejoin timer start (R102). -/
def IsoReason.rejoins : IsoReason → Bool
  | .duplicate | .mismatch => false
  | _ => true

/-- The line controller in IDLE, not yet listening (R19, R20, R83). -/
def freshLine : Line := { offLine with state := .idle }

/-- Entering JOINING, on START or on rejoin timer expiry (R83): the rejoin timer stops, the JOIN is placed, the line controller
leaves OFF_LINE. The isolation reason and the last census result are kept. -/
def enterJoining (s : State) : State :=
  let s1 := s.withMember { s.member with station := .joining, rejoinTimer := none, syncCount := 0 }
  (s1.place .membership (.join s.termsHeld)).withLine freshLine

/-- The membership controller once isolated (R103): the reason is recorded, the timers stop, and the rejoin timer starts for 2I
where auto-rejoin is on and the reason allows it (R102, R105). -/
def isolatedMember (s : State) (r : IsoReason) : Member :=
  { s.member with
    station := .isolated
    reason := r
    syncCount := 0
    censusTimer := none
    silenceTimer := none
    syncTimer := none
    rejoinTimer := if s.settings.autoRejoin && r.rejoins then some (2 * s.interval) else none }

/-- Isolation (R103), one event; a station that does not participate is not isolated again (R104). -/
def isolate (s : State) (r : IsoReason) : State :=
  if s.participating then
    let s1 := if s.line.heldNotes = [] then s else s.raise .noteLost
    let s2 := ((((retireIsolated s1).withProbe idleProbe).withQueue emptyQueue).withLine offLine).withPool emptyPool
    (s2.withMember (isolatedMember s r)).raise .isolated
  else s

/-- The timers and count on entry to JOINED (R88, R92, R94, R101). -/
def joinedMember (s : State) : Member :=
  { s.member with
    station := .joined
    syncCount := 0
    syncTimer := none
    censusTimer := some s.interval
    silenceTimer := some (2 * s.interval) }

/-- Adoption of a snapshot (R87, R88). -/
def adopt (s : State) (p : Pool) : State :=
  (((s.withPool p).withMember (joinedMember s)).withQueue (withdrawCensus s.queue)).raise .joined

/-- Founding (R92). -/
def found (s : State) (m : Maps) : State :=
  ((s.withPool (foundedPool m.syncing)).withMember { joinedMember s with lastCensus := m }).raise .joined

/-- The number of stations a map sets. -/
def mapCount (x : BitVec 32) : Nat := (List.finRange 32).countP fun i => x.getLsbD i.val

/-- A station's bit in a map (R34). -/
def mapBit (x : BitVec 32) (n : StationNo) : Bool := x.getLsbD n.val

/-- A timed census whose dissenters are at least half the members is void (R96). -/
def voidCensus (h : CensusHeader) (m : Maps) : Bool :=
  decide (h.mode = .timed) && decide (0 < mapCount m.dissent) && decide (mapCount m.joined ≤ 2 * mapCount m.dissent)

/-- A timed census in which this station is one of a dissenting minority (R96). -/
def minorityDissent (h : CensusHeader) (m : Maps) (n : StationNo) : Bool :=
  decide (h.mode = .timed) && mapBit m.dissent n && decide (2 * mapCount m.dissent < mapCount m.joined)

/-- Step 4 of a census at a member (R99): the silence timer restarts and the maps are kept. -/
def keepCensus (s : State) (m : Maps) : State :=
  s.withMember { s.member with lastCensus := m, silenceTimer := some (2 * s.interval) }

/-- Steps 3 and 4 of a census at a member (R98, R99); the grants of the service that drops set off are handed after the drops. -/
def memberCounts (s : State) (h : CensusHeader) (m : Maps) : State :=
  match h.mode with
  | .asked => keepCensus s m
  | .timed =>
    let r := applyMisses s.limit s.pool m.joined
    keepCensus (grantOutcomes (s.withPool r.1) r.2) m

/-- A census at a JOINED station, its steps in order (R95 to R99); `own` is true at its initiator. The withdrawal of a pending
action and the restart of the census timer come first, whatever the steps decide. -/
def memberCensus (own : Bool) (s : State) (h : CensusHeader) (m : Maps) : State :=
  let s1 := s.withMember { s.member with censusTimer := some s.interval }
  if minorityDissent h m s.number then isolate s1 .dissent
  else if voidCensus h m then (if own then isolate s1 .outvoted else s1)
  else if mapBit m.joined s.number = false then isolate s1 .absent
  else memberCounts s1 h m

/-- A census at a SYNCING station (R90, R91, R92, R100). -/
def syncingCensus (s : State) (h : CensusHeader) (m : Maps) : State :=
  let s1 := s.withMember { s.member with syncTimer := some s.interval }
  if voidCensus h m then s1
  else if m.joined = 0 then
    (if mapBit m.syncing s.number then found s1 m else s1.withMember { s1.member with lastCensus := m })
  else
    let s2 := s1.withMember { s1.member with lastCensus := m }
    if s.member.syncCount < Config.maxSyncCount then s2.withMember { s2.member with syncCount := s.member.syncCount + 1 }
    else isolate s2 .noSnapshot

/-- The attention bit's condition (R93). -/
def needsAttention (s : State) : Bool :=
  (allChannels.any fun c => (s.channel c).fault.isSome) || decide (s.monitor.temperature = .shutdown)

/-- The four answer bits a station writes (R93). -/
def answerBits (s : State) (sender : StationNo) (h : CensusHeader) : Answer :=
  { sender := sender
    header := h
    joined := s.isJoined
    syncing := decide (s.member.station = .syncing) && decide (s.terms = some h.terms)
    attention := s.participating && needsAttention s
    dissent := s.isJoined && decide (h.mode = .timed) && decide (digest s.pool ≠ h.digest) }

/-- Whether a station in ANSWERING drives spoil slot two: it read as clear a position it set (R35). -/
def objects (a : Answer) (n : StationNo) (m : Maps) : Bool :=
  (a.joined && !mapBit m.joined n) || (a.syncing && !mapBit m.syncing n) || (a.attention && !mapBit m.attention n)
    || (a.dissent && !mapBit m.dissent n)

end Sys2Proof.Machine
end

