-- ==== Sys2Proof/Machine/HostConfig.lean ====
section
/-! DEFINITION. Meanings: SET_ITEM, COMMIT, START (spec/10_host_requests.md R171, R172; spec/09 R161, R162). -/

namespace Sys2Proof.Machine

/-- SET_ITEM: STATE unless UNCONFIGURED, then RANGE (R161, R171). -/
def execSetItem (index : Byte) (value : BitVec 16) (s : State) : Result :=
  request s <|
    if s.member.station ≠ .unconfigured then refuse s .state
    else
      match setStoreItem s.settings index.toNat value.toNat with
      | none => refuse s .range
      | some st => accept s (s.withSettings st)

/-- A channel at the successful COMMIT (R107). -/
def commitChannel (cfg : ChanSettings) (x : Channel) : Channel :=
  if cfg.enable = true ∧ x.state = .disabled then { x with state := .off } else x

/-- The effect of a successful COMMIT (R162): the terms are loaded, enabled channels are OFF, the station is READY. -/
def committed (s : State) : State :=
  ((s.withTerms (some ⟨s.settings.poolLimit, s.settings.censusCode⟩)).withChan
      { s.chan with channels := Vector.ofFn fun c => commitChannel s.settings.chans[c] s.chan.channels[c] }).withMember
    { s.member with station := .ready }

/-- COMMIT: STATE unless UNCONFIGURED, INVALID with the first bad item's index (R162). -/
def execCommit (s : State) : Result :=
  request s <|
    if s.member.station ≠ .unconfigured then refuse s .state
    else
      match badItem s.settings with
      | some i => .next (answered s s .invalid (word i))
      | none => accept s (committed s)

/-- START: taken in READY and ISOLATED (R172, R83). -/
def execStart (s : State) : Result :=
  request s <|
    if s.member.station = .ready ∨ s.member.station = .isolated then accept s (enterJoining s) else refuse s .state

end Sys2Proof.Machine
end

