-- ==== Sys2Proof/Machine/HostNotes.lean ====
section
/-! DEFINITION. Meanings: STAGE_NOTE_BYTE, SEND_NOTE, READ_NOTE_BYTE, DROP_NOTE, NOTE_HOLD_EXPIRY (spec/10_host_requests.md R180,
R181; spec/09 R166, R167; spec/02 R29). -/

namespace Sys2Proof.Machine

/-- STAGE_NOTE_BYTE: RANGE, else the byte at the position is replaced (R167, R180). -/
def execStageNoteByte (index : Byte) (value : BitVec 16) (s : State) : Result :=
  request s <|
    match indexFin 16 index with
    | none => refuse s .range
    | some i =>
      if 255 < value.toNat then refuse s .range
      else accept s (s.withPort { s.port with staging := s.port.staging.set i (value.setWidth 8) })

/-- The first `n` bytes of the staging buffer (R54, R167). -/
def stagedBytes (s : State) (n : Nat) : List Byte := s.port.staging.toList.take n

/-- SEND_NOTE: RANGE, STATE, BUSY, else a NOTE entry with the staged bytes copied is placed (R180, R54). -/
def execSendNote (index : Byte) (value : BitVec 16) (s : State) : Result :=
  request s <|
    match noteTarget index with
    | none => refuse s .range
    | some t =>
      if value.toNat < 1 ∨ 16 < value.toNat then refuse s .range
      else if s.isJoined = false then refuse s .state
      else if (s.queue.entryOf .note).isSome then refuse s .busy
      else accept s (s.place .note (.note t (stagedBytes s value.toNat)))

/-- READ_NOTE_BYTE: STATE on an empty queue, RANGE, else one field of the head note (R166, R181). -/
def execReadNoteByte (index : Byte) (s : State) : Result :=
  request s <|
    match s.port.notes with
    | [] => refuse s .state
    | n :: _ =>
      match readNoteField n index with
      | none => refuse s .range
      | some v => acceptValue s s v

/-- A note enters the note queue at the tail, and NOTE is raised (R29, R166). -/
def placeNote (s : State) (n : Note) : State :=
  (s.withPort { s.port with notes := s.port.notes ++ [n] }).raise .note

/-- The oldest held note is let go of; with none left SHH is freed (R28, R29). -/
def releaseHold (s : State) : State := s.withLine { s.line with heldNotes := s.line.heldNotes.tail }

/-- The head note is removed; the oldest note held for room is placed in the same event (R166, R181). -/
def dropHead (s : State) : State :=
  let s1 := s.withPort { s.port with notes := s.port.notes.tail }
  match s.line.heldNotes with
  | n :: _ => placeNote (releaseHold s1) n
  | [] => s1

/-- DROP_NOTE: STATE on an empty queue (R166, R181). -/
def execDropNote (s : State) : Result :=
  request s (if s.port.notes = [] then refuse s .state else accept s (dropHead s))

/-- 5 ms pass without room: the held note is dropped, NOTE_LOST is raised, SHH is freed (R29). Of several the oldest has waited longest
(log 8). With no note held nothing expires. -/
def execNoteHoldExpiry (s : State) : Result :=
  .next (if s.line.heldNotes = [] then s else (releaseHold s).raise .noteLost)

end Sys2Proof.Machine
end

