-- ==== Sys2Proof/Machine/HostPool.lean ====
section
/-! DEFINITION. Meanings: GO, SET_SHED, POOL_STOP, STATION_STOP (spec/10_host_requests.md R176 to R179; spec/03 R50, R52, R54),
and the edges of the STOP input (spec/06 R123). -/

namespace Sys2Proof.Machine

/-- GO: RANGE, STATE, BUSY, else a GO entry is placed (R176, R54). -/
def execGo (index : Byte) (s : State) : Result :=
  request s <|
    match indexFin 16 index with
    | none => refuse s .range
    | some g =>
      if g = 0 then refuse s .range
      else if s.isJoined = false then refuse s .state
      else if (s.queue.entryOf .go).isSome then refuse s .busy
      else accept s (s.place .go (.go g))

/-- SET_SHED: RANGE, STATE, BUSY, else the shed slot is filled or rewritten (R177, R52). -/
def execSetShed (index : Byte) (s : State) : Result :=
  request s <|
    match indexFin 4 index with
    | none => refuse s .range
    | some l =>
      if s.isJoined = false then refuse s .state
      else
        match requestShed s l with
        | none => refuse s .busy
        | some t => accept s t

/-- The stop latch is set, or set again, and a stop request for ALL goes to the queue (R123). -/
def setLatch (s : State) : State :=
  (s.withChan { s.chan with latch := true }).withQueue (requestStopAll s.queue)

/-- POOL_STOP: STATE unless JOINED, never BUSY (R178). -/
def execPoolStop (s : State) : Result :=
  request s (if s.isJoined = false then refuse s .state else accept s (setLatch s))

/-- STATION_STOP: RANGE, STATE, BUSY; it sets no latch (R179, R50). -/
def execStationStop (index : Byte) (s : State) : Result :=
  request s <|
    match indexFin 32 index with
    | none => refuse s .range
    | some n =>
      if s.isJoined = false then refuse s .state
      else
        match requestStopStation s.queue n with
        | none => refuse s .busy
        | some q => accept s (s.withQueue q)

/-- The assertion edge of the STOP input (R123): at a JOINED station the latch is set and a stop request made. An input that is
asserted already gives no edge. -/
def execStopInputAssertion (s : State) : Result :=
  if s.stopInput then .next s
  else
    let s1 := s.withStopInput true
    .next (if s.isJoined then setLatch s1 else s1)

/-- The STOP input is released (R123). -/
def execStopInputRelease (s : State) : Result := .next (s.withStopInput false)

end Sys2Proof.Machine
end

