-- ==== Sys2Proof/Machine/HostReads.lean ====
section
/-! DEFINITION. Meanings: READ_ITEM, NEXT_EVENT, SET_MASK (spec/09_host_port.md R163 to R165; spec/10 R182). -/

namespace Sys2Proof.Machine

/-- READ_ITEM: RANGE, else the value, and nothing changes (R163, R182). -/
def execReadItem (index : Byte) (value : BitVec 16) (s : State) : Result :=
  request s <|
    match readItemValue s index value with
    | none => refuse s .range
    | some v => acceptValue s s v

/-- NEXT_EVENT: clears and returns the lowest pending, unmasked flag, or returns 00FFh (R165). -/
def execNextEvent (s : State) : Result :=
  request s <|
    match s.port.nextFlag with
    | none => acceptValue s s 0x00FF#16
    | some i => acceptValue s (s.withPort { s.port with flags := s.port.flags.set i false }) (word i.val)

/-- SET_MASK: RANGE, else one mask is set or cleared (R165, R182). -/
def execSetMask (index : Byte) (value : BitVec 16) (s : State) : Result :=
  request s <|
    match indexFin 27 index, valueFlag value with
    | some i, some b => accept s (s.withPort { s.port with masks := s.port.masks.set i b })
    | _, _ => refuse s .range

end Sys2Proof.Machine
end

