-- ==== Sys2Proof/Machine/LineControl.lean ====
section
/-! DEFINITION. The line controller's shared operations: what part a station has in a frame, the end of a frame, failed attempts
(spec/02_the_share_line.md R19 to R38). -/

namespace Sys2Proof.Machine

/-- The part a station has in a frame that the line accepts. -/
inductive FrameRole where
  /-- The station's own frame, won in arbitration (R46). -/
  | own
  /-- Another station's frame, received. -/
  | peer
  /-- A frame read on without applying it (R23, R33). -/
  | bystander
  /-- No frame of this station's hearing: OFF_LINE, STUCK, HOLDING, not yet listening, or not the frame it sends. -/
  | unheard
deriving DecidableEq, Repr

/-- The part a station has in an accepted frame (R20, R22, R27). A controller still ARBITRATING has lost to the frame that was
accepted, which can only be one of a lower pair, and one IDLE and listening has received it from its start edge on: neither passage is a
row of its own (log 3). -/
def frameRole (s : State) (sender : StationNo) (f : Frame) : FrameRole :=
  if frameInRange f = false then .unheard
  else
    match s.line.state with
    | .sending => if s.line.ownFrame = some f ∧ sender = s.number ∧ s.line.collided = false then .own else .unheard
    | .receiving => if s.line.passive then .bystander else .peer
    | .arbitrating =>
      if arbitrationKey (frameRank f) sender < arbitrationKey s.line.sentRank s.number then .peer else .unheard
    | .idle => if s.line.listening then .peer else .unheard
    | .answering | .holding | .stuck | .offLine => .unheard

/-- The part in an accepted census: from ANSWERING, the census being answered (R34, R35). -/
def censusRole (s : State) (sender : StationNo) (h : CensusHeader) : FrameRole :=
  match s.line.state, s.line.answer with
  | .answering, some a =>
    if a.sender = sender ∧ a.header = h then (if s.line.ownFrame.isSome then .own else .peer) else .unheard
  | .answering, none => .unheard
  | _, _ => frameRole s sender (.census h)

/-- The controller after a frame, in HOLDING or IDLE; STUCK instead where the hold limit passed during the frame (R36). -/
def lineAfter (l : Line) (st : LineState) : Line :=
  { state := if l.holdStuck then .stuck else st
    listening := if l.holdStuck then false else l.listening
    offer := none
    sentRank := 0
    ownFrame := none
    passive := false
    collided := false
    holdStuck := false
    answer := none
    heldNotes := l.heldNotes }

/-- The hold phase begins (R27, R28). -/
def enterHolding (s : State) : State := s.withLine (lineAfter s.line .holding)

/-- The frame is over without a hold phase (R26). -/
def backToIdle (s : State) : State := s.withLine (lineAfter s.line .idle)

/-- The controller turned STUCK at once: it drives nothing and listens again only after a first gap (R36, R37). -/
def goStuck (s : State) : State :=
  s.withLine { s.line with state := .stuck, listening := false, holdStuck := false }

/-- An accepted frame (R27): the station takes its part, and the effect is told whether the frame was its own. -/
def acceptFrame (s : State) (role : FrameRole) (effect : Bool → State → State) : Result :=
  match role with
  | .own => .next (effect true (enterHolding s))
  | .peer => .next (effect false (enterHolding s))
  | .bystander => .next (backToIdle s)
  | .unheard => .next s

/-- What a spoil settles beside the count: a deferred raise, or a channel's follow-up (R46, R53, R114). -/
def settleOwner (s : State) : Owner → State
  | .shed => settleRaise s
  | .channel c => settleSpoil s c
  | .membership | .go | .note => s

/-- A failed attempt of what an offer carried (R30, R31, R46): the count rises and the content is mutable again, an owed STOP, a
deferred raise and a follow-up are settled; the eighth failed attempt isolates instead. R50, R53 and R114 name a spoil: that a readback
fault settles all three alike is the model's reading (log 7). -/
def failedAttempt (s : State) : Carrier → State
  | .stop =>
    match s.queue.stop with
    | none => s
    | some a =>
      if a.attempts < Config.maxAttempts then
        s.withQueue { s.queue with
          stop := some ⟨if s.queue.stopOwed then none else a.target, a.attempts + 1, false⟩
          stopOwed := false }
      else isolate s .line
  | .census =>
    match s.queue.census with
    | none => s
    | some a =>
      if a.attempts < Config.maxAttempts then
        s.withQueue { s.queue with census := some ⟨a.mode, a.attempts + 1, false⟩ }
      else isolate s .line
  | .entry o =>
    match s.queue.entryOf o with
    | none => s
    | some e =>
      if e.attempts < Config.maxAttempts then settleOwner (s.withQueue (s.queue.bump o)) o else isolate s .line

/-- The failed attempt of what the controller carries, if it still carries anything (R30, R33). -/
def failCarried (s : State) (c : Option Carrier) : State :=
  match c with
  | some x => failedAttempt s x
  | none => s

end Sys2Proof.Machine
end

