-- ==== Sys2Proof/Machine/LineEvents.lean ====
section
/-! DEFINITION. Meanings of the share line's events: IDLE_GAP, FIRST_IDLE_GAP, ARBITRATION_WON, READBACK_FAULT,
DUPLICATE_COLLISION, CENSUS_ANSWER_FIELD, FRAME_SPOILED, HOLD_END, DATA_STUCK, HOLD_STUCK, STUCK_EXIT (spec/02_the_share_line.md). -/

namespace Sys2Proof.Machine

/-- A controller reading on after an abandon or a readback fault is IDLE once the line is quiet again (R33, log 7). -/
def quietLine (s : State) : State :=
  if s.line.state = .receiving ∧ s.line.passive = true then backToIdle s else s

/-- The kind rank that the arbitration field of an offer carries (R39, R43). -/
def offerRank (q : TxQueue) : Carrier → Nat
  | .stop => 0
  | .census => 1
  | .entry o => ((q.entryOf o).map fun e => contentRank e.content).getD 0

/-- A frame is begun, or joined, with an offer: its start bit and arbitration field are sent (R21). -/
def beginFrame (s : State) (c : Carrier) : State :=
  s.withLine { s.line with state := .arbitrating, offer := some c, sentRank := offerRank s.queue c }

/-- An opportunity at a listening controller in IDLE (R21, R43): with an offer ready it begins a frame, or joins one begun by another;
another's start edge that it does not join makes it a receiver. -/
def opportunity (s : State) (edge : StartEdge) : State :=
  match edge, s.queue.offer with
  | .noEdge, some c => beginFrame s c
  | .withGap, some c => beginFrame s c
  | .noEdge, none => s
  | .withGap, none => s.withLine { s.line with state := .receiving }
  | .beforeGap, _ => s.withLine { s.line with state := .receiving }

/-- IDLE_GAP (R21, R43). -/
def execIdleGap (edge : StartEdge) (s : State) : Result :=
  let s1 := quietLine s
  .next (if s1.line.state = .idle ∧ s1.line.listening = true then opportunity s1 edge else s1)

/-- FIRST_IDLE_GAP: a controller in IDLE that was not listening listens from now on (R20). -/
def execFirstIdleGap (s : State) : Result :=
  .next (if s.line.state = .idle then s.withLine { s.line with listening := true } else s)

/-- The win (R22, R23, R45, R47): the body is read and frozen; an offer that was removed is abandoned, and the controller reads on
without spoiling and without applying. -/
def winArbitration (s : State) : State :=
  match s.line.offer.bind fun c => (frozenBody s c).map fun f => (c, f) with
  | some (c, f) =>
    (s.withQueue (setOnLine s.queue c)).withLine { s.line with state := .sending, ownFrame := some f }
  | none => s.withLine { s.line with state := .receiving, passive := true, offer := none }

/-- Lost arbitration (R22): the controller receives; what it offered stays unsent with its count. -/
def loseArbitration (s : State) : State := s.withLine { s.line with state := .receiving, offer := none }

/-- A readback fault (R33): the sender stops driving, counts a failed attempt and reads on without spoiling and without applying. -/
def truncateFrame (s : State) : State :=
  failCarried (s.withLine { s.line with state := .receiving, passive := true, offer := none, ownFrame := none }) s.line.offer

/-- ARBITRATION_WON (R22, R45): the end of the field, every bit read back as sent. -/
def execArbitrationWon (s : State) : Result :=
  .next (if s.line.state = .arbitrating then winArbitration s else s)

/-- READBACK_FAULT (R33): met in the start bit, the arbitration field, the body, the check or the end bit, while the sender drives. -/
def execReadbackFault (s : State) : Result :=
  .next (if s.line.state = .arbitrating ∨ (s.line.state = .sending ∧ s.line.collided = false) then truncateFrame s else s)

/-- A collision in SENDING (R32): the sender stops driving at that bit and reads on. The spec names no other state for it: it stays
SENDING, its entry on the line (log 3). -/
def stopDrivingFrame (s : State) : State := s.withLine { s.line with collided := true }

/-- The end of a frame after a collision (R32): one that reads well formed is a twin's, and the station isolates; one that reads
malformed is a failed attempt. -/
def collisionEnds (wellFormed : Bool) (s : State) : State :=
  if wellFormed then isolate s .duplicate else failCarried (backToIdle s) s.line.offer

/-- DUPLICATE_COLLISION: dominant is read where recessive was sent, and, after the win, the frame that is then read ends (R32). In the
arbitration field it is a lost arbitration (R22), which has no row of its own (log 3). -/
def execDuplicateCollision (read : Collision) (s : State) : Result :=
  .next <|
    match s.line.state, read with
    | .sending, .differs => stopDrivingFrame s
    | .sending, .ends wellFormed => if s.line.collided then collisionEnds wellFormed s else s
    | .arbitrating, .differs => loseArbitration s
    | _, _ => s

/-- The command that the nine bits SHD read of the arbitration field bring to a controller in ARBITRATING, bit by bit against those it
sent (R22, R33). -/
def State.fieldCommand (s : State) (read : List Bool) : Instr :=
  match readField (arbitrationBits s.line.sentRank s.number) read with
  | .won => .arbitrationWon
  | .lost => .duplicateCollision .differs
  | .fault => .readbackFault

/-- The command that the bits SHD reads after the arbitration field bring to the sender of `f`, bit by bit against those it sends: body,
check and end bit (R24, R32, R33). None while every bit reads back as sent. -/
def State.frameCommand (s : State) (f : Frame) (read : List Bool) : Option Instr :=
  match readField ((frameBits s.number f).drop 9) read with
  | .won => none
  | .lost => some (.duplicateCollision .differs)
  | .fault => some .readbackFault

/-- The command that the end of a frame brings to a sender that collided, with the bits read of it from the arbitration field on: it has
read them as a receiver does (R25, R32). -/
def collisionCommand (bits : List Bool) : Instr := .duplicateCollision (.ends (receiveBits bits).isSome)

/-- CENSUS_ANSWER_FIELD (R34, R93): spoil slot one is recessive, and the station decides and writes its four bits. -/
def execCensusAnswerField (sender : StationNo) (h : CensusHeader) (s : State) : Result :=
  .next <|
    match frameRole s sender (.census h) with
    | .own => s.withLine { s.line with state := .answering, answer := some (answerBits s sender h) }
    | .peer => s.withLine { s.line with state := .answering, answer := some (answerBits s sender h), offer := none }
    | .bystander | .unheard => s

/-- FRAME_SPOILED (R26, R30, R35): every station is IDLE, and the sender counts a failed attempt. -/
def execFrameSpoiled (s : State) : Result :=
  .next <|
    match s.line.state with
    | .sending => failCarried (backToIdle s) s.line.offer
    | .answering => failCarried (backToIdle s) (if s.line.ownFrame.isSome then s.line.offer else none)
    | .receiving | .arbitrating => backToIdle s
    | .idle | .holding | .stuck | .offLine => s

/-- HOLD_END: SHH reads recessive, which it cannot while this station holds a note (R28). -/
def execHoldEnd (s : State) : Result :=
  .next <|
    if s.line.state = .holding ∧ s.line.heldNotes = [] then s.withLine { s.line with state := .idle } else s

/-- DATA_STUCK: SHD dominant for more than 1 ms in IDLE or HOLDING (R36). -/
def execDataStuck (s : State) : Result :=
  .next (if s.line.state = .idle ∨ s.line.state = .holding then goStuck s else s)

/-- HOLD_STUCK: SHH dominant for more than 20 ms (R36); a frame in progress runs to its end first. -/
def execHoldStuck (s : State) : Result :=
  .next <|
    match s.line.state with
    | .idle | .holding => goStuck s
    | .arbitrating | .sending | .receiving | .answering => s.withLine { s.line with holdStuck := true }
    | .stuck | .offLine => s

/-- STUCK_EXIT: both wires recessive; the controller is IDLE and not yet listening (R37, R20). -/
def execStuckExit (s : State) : Result :=
  .next (if s.line.state = .stuck then s.withLine { s.line with state := .idle, listening := false } else s)

end Sys2Proof.Machine
end

