-- ==== Sys2Proof/Machine/MemberFrames.lean ====
section
/-! DEFINITION. Meanings of the accepted JOIN, SNAPSHOT and CENSUS (spec/05_membership_and_census.md R85 to R100). -/

namespace Sys2Proof.Machine

/-- A JOINING station's own JOIN takes it to SYNCING (R85). -/
def enterSyncing (s : State) : State :=
  s.withMember { s.member with station := .syncing, syncCount := 0, syncTimer := some s.interval }

/-- A member places a SNAPSHOT where the membership slot is empty (R49, R86). -/
def offerSnapshot (s : State) : State := s.place .membership .snapshot

/-- A JOIN at a member (R86). -/
def memberJoin (n : StationNo) (t : Terms) (s : State) : State :=
  if n = s.number then isolate s .duplicate
  else if s.terms = some t then
    let r := applyJoin s.limit s.pool n
    offerSnapshot (grantOutcomes (s.withPool r.1) r.2)
  else offerSnapshot s

/-- JOIN applied (R84, R85, R86). -/
def joinEffect (n : StationNo) (t : Terms) (own : Bool) (s : State) : State :=
  match s.member.station with
  | .joining => if own then enterSyncing (reportAccepted true s) else s
  | .joined => memberJoin n t (reportAccepted own s)
  | .syncing | .unconfigured | .ready | .isolated => reportAccepted own s

def execJoin (n : StationNo) (t : Terms) (s : State) : Result :=
  acceptFrame s (frameRole s n (.join t)) (joinEffect n t)

/-- A SNAPSHOT at a SYNCING station (R87, R88). -/
def syncingSnapshot (t : Terms) (p : Pool) (s : State) : State :=
  if s.terms ≠ some t then isolate s .mismatch
  else if showsFresh p s.number then adopt s p
  else s

/-- SNAPSHOT applied (R87, R89). -/
def snapshotEffect (t : Terms) (p : Pool) (own : Bool) (s : State) : State :=
  match s.member.station with
  | .syncing => syncingSnapshot t p (reportAccepted own s)
  | .joined => if own then reportAccepted true s else withdrawSnapshot s
  | .joining | .unconfigured | .ready | .isolated => reportAccepted own s

def execSnapshot (n : StationNo) (t : Terms) (p : Pool) (s : State) : Result :=
  acceptFrame s (frameRole s n (.snapshot t p)) (snapshotEffect t p)

/-- CENSUS applied (R95, R100): a pending action not on the line is withdrawn at every participating station (R48). -/
def censusEffect (h : CensusHeader) (m : Maps) (own : Bool) (s : State) : State :=
  let s1 := reportAccepted own s
  let s2 := s1.withQueue (withdrawCensus s1.queue)
  match s.member.station with
  | .joined => memberCensus own s2 h m
  | .syncing => syncingCensus s2 h m
  | .joining | .unconfigured | .ready | .isolated => s2

def execCensus (n : StationNo) (h : CensusHeader) (m : Maps) (s : State) : Result :=
  acceptFrame s (censusRole s n h) (censusEffect h m)

end Sys2Proof.Machine
end

