-- ==== Sys2Proof/Machine/PoolFrames.lean ====
section
/-! DEFINITION. Meanings of the accepted frames that the pool engine applies: CLAIM, RELEASE, WITHDRAW, GO, SHED SET and RAISE, STOP
for ALL and for one station, NOTE (spec/04_claims_releases_and_the_wait_list.md R57 to R78). Each: the pool change in full, the
removal of an own accepted entry, the outcomes in order, the events (R57, R46). -/

namespace Sys2Proof.Machine

/-- Only a JOINED station applies these frames; any other takes its part and ignores them (R16, R57). -/
def ifJoined (own : Bool) (s : State) (t : State) : State := if s.isJoined then t else reportAccepted own s

/-- CLAIM applied (R59 to R63, R115, R116). -/
def claimEffect (n : StationNo) (c : ChanNo) (k : PriClass) (u : Nat) (g : GroupNo) (w : Bool) (own : Bool) (s : State) : State :=
  let r := applyClaim s.limit s.pool n c k u g w
  let s1 := reportAccepted own (s.withPool r.1)
  ifJoined own s (grantOutcomes (if n = s.number then claimOutcome s1 c u g r.2.1 else s1) r.2.2)

def execClaim (n : StationNo) (c : ChanNo) (k : PriClass) (u : Nat) (g : GroupNo) (w : Bool) (s : State) : Result :=
  acceptFrame s (frameRole s n (.claim c k u g w)) (claimEffect n c k u g w)

/-- RELEASE applied, in any form, its pool change given (R65 to R67): the release applied outcome comes before the grants. -/
def releaseEffect (change : State → Pool × List WaitEntry) (n : StationNo) (c : ChanNo) (u : Nat) (f : ReleaseForm) (own : Bool)
    (s : State) : State :=
  let r := change s
  let s1 := reportAccepted own (s.withPool r.1)
  ifJoined own s (grantOutcomes (if n = s.number then releaseOutcome s1 c u f else s1) r.2)

/-- RELEASE TRIM or FULL (R65, R67). -/
def execRelease (n : StationNo) (c : ChanNo) (k : PriClass) (u : Nat) (full : Bool) (s : State) : Result :=
  let f : ReleaseForm := if full then .full else .trim
  acceptFrame s (frameRole s n (.release c k u f)) (releaseEffect (fun t => applyRelease t.limit t.pool n k u) n c u f)

/-- RELEASE WITHDRAW (R66, R67); its class and units are not examined. -/
def execWithdraw (n : StationNo) (c : ChanNo) (k : PriClass) (u : Nat) (s : State) : Result :=
  acceptFrame s (frameRole s n (.release c k u .withdraw))
    (releaseEffect (fun t => applyWithdraw t.limit t.pool n c) n c u .withdraw)

/-- GO applied (R71, R120, R157). -/
def goEffect (g : GroupNo) (own : Bool) (s : State) : State :=
  let s1 := reportAccepted own s
  let s2 := goOutcome s1 g
  ifJoined own s ((s2.withMonitor { s2.monitor with goTime := s2.monitor.clock }).raise .go)

def execGoApplied (n : StationNo) (g : GroupNo) (s : State) : Result :=
  acceptFrame s (frameRole s n (.go g)) (goEffect g)

/-- SHED SET applied (R72, R73, R75). -/
def shedSetEffect (l : ShedLevel) (own : Bool) (s : State) : State :=
  let r := applyShedSet s.limit s.pool l
  let s1 := reportAccepted own (s.withPool r.1)
  let s2 := grantOutcomes (if s.pool.level < l then shedOutcome s1 l else s1) r.2
  ifJoined own s (if s.pool.level ≠ l then s2.raise .shed else s2)

def execShedSet (n : StationNo) (l : ShedLevel) (s : State) : Result :=
  acceptFrame s (frameRole s n (.shed .set l)) (shedSetEffect l)

/-- SHED RAISE applied (R74): as SET to prior plus one while the level equals the prior, else nothing. -/
def shedRaiseEffect (p : ShedLevel) (own : Bool) (s : State) : State :=
  if s.pool.level = p ∧ p < 3 then shedSetEffect (p + 1) own s else reportAccepted own s

def execShedRaise (n : StationNo) (p : ShedLevel) (s : State) : Result :=
  acceptFrame s (frameRole s n (.shed .raise p)) (shedRaiseEffect p)

/-- A pending STOP action is withdrawn where another station's STOP covers it (R51). -/
def coverStop (own : Bool) (applied : Option StationNo) (s : State) : State :=
  if own then s else s.withQueue (withdrawStop s.queue applied)

/-- STOP for ALL applied (R76, R119, R124). -/
def stopAllEffect (own : Bool) (s : State) : State :=
  let r := applyStopAll s.limit s.pool
  let s1 := coverStop own none (reportAccepted own (s.withPool r.1))
  ifJoined own s (grantOutcomes (stoppedOutcome s1 true) r.2)

def execStopAll (n : StationNo) (s : State) : Result :=
  acceptFrame s (frameRole s n (.stop none)) stopAllEffect

/-- STOP for one station applied (R77, R119). -/
def stopStationEffect (t : StationNo) (own : Bool) (s : State) : State :=
  let r := applyStopStation s.limit s.pool t
  let s1 := coverStop own (some t) (reportAccepted own (s.withPool r.1))
  ifJoined own s (grantOutcomes (if t = s.number then stoppedOutcome s1 false else s1) r.2)

def execStopStation (n t : StationNo) (s : State) : Result :=
  acceptFrame s (frameRole s n (.stop (some t))) (stopStationEffect t)

/-- Whether a note is delivered at this station (R78): it names the station, and the station is not its sender. -/
def delivers (s : State) (n : Note) : Bool :=
  decide (n.sender ≠ s.number) && (decide (n.target = none) || decide (n.target = some s.number))

/-- NOTE applied (R78, R28, R29): delivered at the tail of the note queue, or held in the hold phase while that is full. A note that
outlived STUCK may be held already, which the spec does not name: the model holds both, oldest first, and each of them ends by R29's
placement or by its NOTE_LOST (log 8). -/
def noteEffect (n : Note) (own : Bool) (s : State) : State :=
  let s1 := reportAccepted own s
  ifJoined own s <|
    if delivers s n then
      if s1.port.notes.length < Config.noteCapacity then placeNote s1 n
      else s1.withLine { s1.line with heldNotes := s1.line.heldNotes ++ [n] }
    else s1

def execNote (n : StationNo) (t : Option StationNo) (d : List Byte) (s : State) : Result :=
  acceptFrame s (frameRole s n (.note t d)) (noteEffect ⟨n, t, d⟩)

end Sys2Proof.Machine
end

