-- ==== Sys2Proof/Machine/Resets.lean ====
section
/-! DEFINITION. Meanings: POWER_ON, PIN_RESET, SOFT_RESET, TRANSACTION_END, UNKNOWN (spec/09_host_port.md R158, R168; spec/10
R170, R183). -/

namespace Sys2Proof.Machine

/-- POWER_ON (R168). -/
def execPowerOn (p : PinSample) (s : State) : Result := .next (hardReset p s)

/-- PIN_RESET: the same effect as power-on (R168). -/
def execPinReset (p : PinSample) (s : State) : Result := .next (hardReset p s)

/-- SOFT_RESET is decided ACCEPTED at the second byte and waits for CSN to rise (R168, R183). -/
def execSoftReset (s : State) : Result :=
  request s (accept s (s.withPort { s.port with softReset := true }))

/-- CSN falls (R158, R159): a transaction begins, its summary is sampled, and nothing of it is decided yet. -/
def csnFalls (s : State) : State := s.withPort { s.port with sampled := some s.summary, reply := none }

/-- CSN rises (R158, R168): with exactly 32 bits a decided soft reset is carried out; with any other count FRAMING is raised and no
soft reset follows. -/
def csnRises (bits : Nat) (die : Int) (vs : Nat) (s : State) : State :=
  let s1 := s.withPort { s.port with sampled := none, softReset := false }
  if bits = 32 then (if s.port.softReset then softReset die vs s else s1) else s1.raise .framing

/-- TRANSACTION_END, with CSN's edge (R158, R159, R168). CSN's fall has no row of its own and is carried by this one (log 6). Until CSN
has risen once after a hard reset with CSN low, no transaction is counted. -/
def execTransactionEnd (edge : CsnEdge) (die : Int) (vs : Nat) (s : State) : Result :=
  .next <|
    match edge, s.port.awaitCsn with
    | .fall, true => s
    | .fall, false => csnFalls s
    | .rise _, true => s.withPort { s.port with awaitCsn := false }
    | .rise bits, false => csnRises bits die vs s

/-- A code that is not in the table is refused UNKNOWN (R170); a code of the table is no such transaction, and nothing happens. -/
def execUnknown (code : Byte) (s : State) : Result :=
  if knownCodes.contains code then .next s else request s (refuse s .unknown)

end Sys2Proof.Machine
end

