-- ==== Sys2Proof/Machine/StationMonitor.lean ====
section
/-! DEFINITION. Meanings: THERMAL_WARNING, THERMAL_SHUTDOWN, SHUTDOWN_EXIT, LOCKOUT_ENTRY, LOCKOUT_EXIT, SAG_EPISODE_OPEN,
SAG_EPISODE_CLOSE, STATION_CLOCK_TICK (spec/08_temperature_supply_and_station_clock.md). The operand is the temperature, in whole
degrees rounded down, or the supply, in millivolts, that held for the measurement time. -/

namespace Sys2Proof.Machine

/-- Every change of the temperature state raises HOT (R149). -/
def setTemperature (s : State) (t : TempState) : State :=
  (s.withMonitor { s.monitor with temperature := t }).raise .hot

/-- Every change of the supply state raises SUPPLY (R154). -/
def setSupply (s : State) (v : SupplyState) : State :=
  (s.withMonitor { s.monitor with supply := v }).raise .supply

/-- Entry to SHUTDOWN (R148): the channels are retired with reason HOT, and HOT is raised once. -/
def enterShutdown (s : State) : State := setTemperature (retire s .hot) .shutdown

/-- THERMAL_WARNING: into WARNING at or above 125 degrees, out of it below 110; a temperature that held at or above 150 fulfils the
condition of SHUTDOWN at the same moment, and that is the one change (R147). -/
def execThermalWarning (die : Int) (s : State) : Result :=
  .next <|
    if s.monitor.temperature ≠ .shutdown ∧ 150 ≤ die then enterShutdown s
    else if s.monitor.temperature = .normal ∧ 125 ≤ die then setTemperature s .warning
    else if s.monitor.temperature = .warning ∧ die < 110 then setTemperature s .normal
    else s

/-- THERMAL_SHUTDOWN: at or above 150 degrees, from NORMAL or WARNING (R147, R148). -/
def execThermalShutdown (die : Int) (s : State) : Result :=
  .next (if s.monitor.temperature ≠ .shutdown ∧ 150 ≤ die then enterShutdown s else s)

/-- SHUTDOWN_EXIT: below 135 degrees (R147, R148). -/
def execShutdownExit (die : Int) (s : State) : Result :=
  .next (if s.monitor.temperature = .shutdown ∧ die < 135 then setTemperature s .warning else s)

/-- LOCKOUT_ENTRY: the supply falls below 15.0 V (R150, R151); an open sag episode ends. -/
def execLockoutEntry (vs : Nat) (s : State) : Result :=
  .next (if s.monitor.supply ≠ .lockout ∧ vs < 15000 then setSupply (retire s .supply) .lockout else s)

/-- LOCKOUT_EXIT: the supply rises above 16.0 V (R150, R151). -/
def execLockoutExit (vs : Nat) (s : State) : Result :=
  .next (if s.monitor.supply = .lockout ∧ 16000 < vs then setSupply s .normal else s)

/-- The request of a shed raise at the opening of an episode, where R153's three conditions hold. -/
def requestRaise (s : State) : State :=
  if s.settings.sagShedding = true ∧ s.isJoined = true ∧ s.pool.level < 3 then sagRaise s else s

/-- SAG_EPISODE_OPEN: below the sag threshold, in NORMAL, with a committed threshold (R152, R153). -/
def execSagEpisodeOpen (vs : Nat) (s : State) : Result :=
  .next <|
    if s.monitor.supply = .normal ∧ s.member.station ≠ .unconfigured ∧ vs < s.sagThreshold then
      requestRaise (setSupply s .sag)
    else s

/-- SAG_EPISODE_CLOSE: above the threshold plus 1.0 V, in SAG (R152). -/
def execSagEpisodeClose (vs : Nat) (s : State) : Result :=
  .next (if s.monitor.supply = .sag ∧ s.sagThreshold + 1000 < vs then setSupply s .normal else s)

/-- STATION_CLOCK_TICK: the clock advances by one and wraps (R156). -/
def execStationClockTick (s : State) : Result :=
  .next (s.withMonitor { s.monitor with clock := s.monitor.clock + 1 })

end Sys2Proof.Machine
end

