-- ==== Sys2Proof/Machine/Supervision.lean ====
section
/-! DEFINITION. Meanings: PROBE_WINDOW_END, OVERCURRENT, OPEN_LOAD, OPEN_LOAD_REARM, CURRENT_MEASUREMENT
(spec/07_load_probe_and_output_supervision.md R131 to R143). -/

namespace Sys2Proof.Machine

/-- The load count at the end of a window: the load counter saturates at 65535 (R132). -/
def loadCount (periods : Nat) : Nat := min periods Config.loadSaturation

/-- The fault kind a load count gives, or none where the probe passes (R133). -/
def probeVerdict (cfg : ChanSettings) (count : Nat) : Option FaultKind :=
  if count < cfg.openCount then some .probeOpen
  else if cfg.shortCount < count then some .probeShort
  else none

/-- A passed probe (R112, R131): the CLAIM is placed from the start request. -/
def probePassed (s : State) (c : ChanNo) : State :=
  let x := s.channel c
  match x.state, x.startReq with
  | .probing, some r => placeClaim (s.setChannel c { x with state := .claiming, startReq := none }) c r
  | _, _ => s

/-- A failed probe (R112, R131, R134). -/
def probeFailed (s : State) (c : ChanNo) (kind : FaultKind) (count : Nat) : State :=
  let s1 := s.updChannel c fun x => { x with state := .faulted, counted := 0, startReq := none }
  (writeRecord s1 c kind true count .probing).raise (.stopped c)

/-- PROBE_WINDOW_END (R132, R133): the reference counter has reached 4096, the load count is judged, the head leaves, and both
counters are 0 for the next head's window. With an empty probe queue no window runs. -/
def execProbeWindowEnd (periods : Nat) (s : State) : Result :=
  match s.probe.queue with
  | [] => .next s
  | c :: rest =>
    let s1 := s.withProbe { queue := rest, reference := 0, load := 0 }
    match probeVerdict (s.cfg c) (loadCount periods) with
    | none => .next (probePassed s1 c)
    | some kind => .next (probeFailed s1 c kind (loadCount periods))

/-- A current as a measurement reads it (R137). -/
def measured (current : Nat) : Nat := min current Config.maxCurrent

/-- The overcurrent limit that applies in a channel's state, in mA (R138). -/
def currentLimit (s : State) (c : ChanNo) : Nat :=
  match (s.channel c).state with
  | .inrush => min (2 * (20 * (s.cfg c).currentLimit)) Config.maxCurrent
  | _ => 20 * (s.cfg c).currentLimit

/-- Whether a current is above the limit that applies; a reading of 8000 is above a limit of 8000 (R138). -/
def aboveLimit (s : State) (c : ChanNo) (current : Nat) : Bool :=
  decide (currentLimit s c < measured current) || decide (measured current = Config.maxCurrent)

/-- The open-load threshold in mA (R140). -/
def openThreshold (s : State) (c : ChanNo) : Nat := 2 * (s.cfg c).olThreshold

/-- The open-load detector is active (R137, R140). -/
def openActive (s : State) (c : ChanNo) : Bool :=
  s.driven c && decide ((s.channel c).state = .run) && decide ((s.cfg c).olThreshold ≠ 0)

/-- Whether a channel's overcurrent deglitch timer runs, by its last current (R138). -/
def overcurrentTiming (s : State) (c : ChanNo) : Bool := s.driven c && aboveLimit s c (s.channel c).lastCurrent

/-- Whether a channel's open-load deglitch timer runs, by its last current (R140, R141). -/
def openLoadTiming (s : State) (c : ChanNo) : Bool :=
  openActive s c && decide ((s.channel c).lastCurrent < openThreshold s c) && !(s.channel c).olSpent

/-- OVERCURRENT (R138): a stopping record, the channel FAULTED. While the output is not driven the detector is idle (R137, R139). -/
def execOvercurrent (c : ChanNo) (current : Nat) (s : State) : Result :=
  .next <|
    if s.driven c && aboveLimit s c current then
      faultChannel (writeRecord s c .overcurrent true (measured current) (s.channel c).state) c
    else s

/-- An open load is detected (R140, R141): with action STOP as an overcurrent, with action REPORT a report-only record, the detector
spent. -/
def openLoadFound (s : State) (c : ChanNo) (current : Nat) : State :=
  if (s.cfg c).olReport then
    (writeRecord s c .openLoad false (measured current) .run).updChannel c fun x => { x with olSpent := true }
  else faultChannel (writeRecord s c .openLoad true (measured current) .run) c

/-- OPEN_LOAD (R140, R141): only while the detector is active, not spent, and the current below the threshold. -/
def execOpenLoad (c : ChanNo) (current : Nat) (s : State) : Result :=
  .next <|
    if openActive s c && !(s.channel c).olSpent && decide (measured current < openThreshold s c) then openLoadFound s c current
    else s

/-- OPEN_LOAD_REARM (R141): the current rises to or above the threshold while the detector is active. -/
def execOpenLoadRearm (c : ChanNo) (current : Nat) (s : State) : Result :=
  .next <|
    if openActive s c && decide (openThreshold s c ≤ measured current) then s.updChannel c fun x => { x with olSpent := false }
    else s

/-- CURRENT_MEASUREMENT, in every channel state (R137). -/
def execCurrentMeasurement (c : ChanNo) (current : Nat) (s : State) : Result :=
  .next (s.updChannel c fun x => { x with lastCurrent := measured current })

end Sys2Proof.Machine
end

