-- ==== Sys2Proof/Machine/Timers.lean ====
section
/-! DEFINITION. Meanings of the timers' expiries (spec/05_membership_and_census.md R90, R94, R101, R105; spec/06 R121, R122). A
stopped timer does not expire: its expiry has no effect (log 2). -/

namespace Sys2Proof.Machine

/-- CENSUS_TIMER_EXPIRY: a JOINED station sets the CENSUS action in TIMED mode, unless one is pending (R94, R48). -/
def execCensusTimerExpiry (s : State) : Result :=
  .next <|
    if s.member.censusTimer.isSome ∧ s.isJoined = true then
      (s.withMember { s.member with censusTimer := none }).withQueue (setCensus s.queue .timed)
    else s

/-- SYNC_TIMER_EXPIRY: a SYNCING station sets the CENSUS action in ASKED mode, unless one is pending (R90, R48). -/
def execSyncTimerExpiry (s : State) : Result :=
  .next <|
    if s.member.syncTimer.isSome ∧ s.member.station = .syncing then
      (s.withMember { s.member with syncTimer := none }).withQueue (setCensus s.queue .asked)
    else s

/-- SILENCE_TIMER_EXPIRY: the station isolates with reason SILENCE (R101). -/
def execSilenceTimerExpiry (s : State) : Result :=
  .next (if s.member.silenceTimer.isSome ∧ s.isJoined = true then isolate s .silence else s)

/-- REJOIN_TIMER_EXPIRY: an ISOLATED station enters JOINING as on START (R105). -/
def execRejoinTimerExpiry (s : State) : Result :=
  .next (if s.member.rejoinTimer.isSome ∧ s.member.station = .isolated then enterJoining s else s)

/-- The inrush timer expires (R122, R141): the channel is in RUN with its open-load detector armed, and a TRIM of the difference is
placed where the hold units are below the inrush units. -/
def inrushOver (s : State) (c : ChanNo) : State :=
  let s1 := s.updChannel c fun x => { x with state := .run, inrushTimer := none, olSpent := false }
  if (s.cfg c).hold < (s.cfg c).inrush then
    s1.place (.channel c) (.release c (s.cfg c).cls ((s.cfg c).inrush - (s.cfg c).hold) .trim)
  else s1

/-- INRUSH_TIMER_EXPIRY (R122). -/
def execInrushTimerExpiry (c : ChanNo) (s : State) : Result :=
  .next (if (s.channel c).inrushTimer.isSome ∧ (s.channel c).state = .inrush then inrushOver s c else s)

/-- SPACING_TIMER_EXPIRY (R121): the head starts if the queue is not empty and the latch clear, and the timer starts again; otherwise
it stops. -/
def execSpacingTimerExpiry (s : State) : Result :=
  .next <|
    if s.chan.spacing.isSome then
      let s1 := s.withChan { s.chan with spacing := none }
      if s.chan.latch = false then startHead s1 else s1
    else s

end Sys2Proof.Machine
end

