-- ==== Sys2Proof/Machine/Dispatch.lean ====
section
/-! DEFINITION. The dispatch: one arm for each command, each one direct call of its meaning. -/

namespace Sys2Proof.Machine

def exec (i : Instr) (s : State) : Host.Outcome State Fault Refusal :=
  match i with
  | .powerOn pins => Sys2Proof.Machine.execPowerOn pins s
  | .pinReset pins => Sys2Proof.Machine.execPinReset pins s
  | .softReset => Sys2Proof.Machine.execSoftReset s
  | .transactionEnd edge die vs => Sys2Proof.Machine.execTransactionEnd edge die vs s
  | .unknown code => Sys2Proof.Machine.execUnknown code s
  | .setItem ix v => Sys2Proof.Machine.execSetItem ix v s
  | .commit => Sys2Proof.Machine.execCommit s
  | .start => Sys2Proof.Machine.execStart s
  | .on ix v => Sys2Proof.Machine.execOn ix v s
  | .arm ix v => Sys2Proof.Machine.execArm ix v s
  | .off ix => Sys2Proof.Machine.execOff ix s
  | .clearFault ix => Sys2Proof.Machine.execClearFault ix s
  | .go ix => Sys2Proof.Machine.execGo ix s
  | .setShed ix => Sys2Proof.Machine.execSetShed ix s
  | .poolStop => Sys2Proof.Machine.execPoolStop s
  | .stationStop ix => Sys2Proof.Machine.execStationStop ix s
  | .stageNoteByte ix v => Sys2Proof.Machine.execStageNoteByte ix v s
  | .sendNote ix v => Sys2Proof.Machine.execSendNote ix v s
  | .readNoteByte ix => Sys2Proof.Machine.execReadNoteByte ix s
  | .dropNote => Sys2Proof.Machine.execDropNote s
  | .readItem ix v => Sys2Proof.Machine.execReadItem ix v s
  | .nextEvent => Sys2Proof.Machine.execNextEvent s
  | .setMask ix v => Sys2Proof.Machine.execSetMask ix v s
  | .stopInputAssertion => Sys2Proof.Machine.execStopInputAssertion s
  | .idleGap edge => Sys2Proof.Machine.execIdleGap edge s
  | .firstIdleGap => Sys2Proof.Machine.execFirstIdleGap s
  | .arbitrationWon => Sys2Proof.Machine.execArbitrationWon s
  | .readbackFault => Sys2Proof.Machine.execReadbackFault s
  | .duplicateCollision read => Sys2Proof.Machine.execDuplicateCollision read s
  | .censusAnswerField n header => Sys2Proof.Machine.execCensusAnswerField n header s
  | .frameSpoiled => Sys2Proof.Machine.execFrameSpoiled s
  | .claim n c cls units group wait => Sys2Proof.Machine.execClaim n c cls units group wait s
  | .release n c cls units full => Sys2Proof.Machine.execRelease n c cls units full s
  | .withdraw n c cls units => Sys2Proof.Machine.execWithdraw n c cls units s
  | .goApplied n group => Sys2Proof.Machine.execGoApplied n group s
  | .shedSet n level => Sys2Proof.Machine.execShedSet n level s
  | .shedRaise n prior => Sys2Proof.Machine.execShedRaise n prior s
  | .stopAll n => Sys2Proof.Machine.execStopAll n s
  | .stopStation n target => Sys2Proof.Machine.execStopStation n target s
  | .note n target data => Sys2Proof.Machine.execNote n target data s
  | .noteHoldExpiry => Sys2Proof.Machine.execNoteHoldExpiry s
  | .holdEnd => Sys2Proof.Machine.execHoldEnd s
  | .join n terms => Sys2Proof.Machine.execJoin n terms s
  | .snapshot n terms pool => Sys2Proof.Machine.execSnapshot n terms pool s
  | .census n header maps => Sys2Proof.Machine.execCensus n header maps s
  | .censusTimerExpiry => Sys2Proof.Machine.execCensusTimerExpiry s
  | .syncTimerExpiry => Sys2Proof.Machine.execSyncTimerExpiry s
  | .silenceTimerExpiry => Sys2Proof.Machine.execSilenceTimerExpiry s
  | .rejoinTimerExpiry => Sys2Proof.Machine.execRejoinTimerExpiry s
  | .dataStuck => Sys2Proof.Machine.execDataStuck s
  | .holdStuck => Sys2Proof.Machine.execHoldStuck s
  | .stuckExit => Sys2Proof.Machine.execStuckExit s
  | .inrushTimerExpiry c => Sys2Proof.Machine.execInrushTimerExpiry c s
  | .spacingTimerExpiry => Sys2Proof.Machine.execSpacingTimerExpiry s
  | .probeWindowEnd loadPeriods => Sys2Proof.Machine.execProbeWindowEnd loadPeriods s
  | .overcurrent c x => Sys2Proof.Machine.execOvercurrent c x s
  | .openLoad c x => Sys2Proof.Machine.execOpenLoad c x s
  | .thermalWarning die => Sys2Proof.Machine.execThermalWarning die s
  | .thermalShutdown die => Sys2Proof.Machine.execThermalShutdown die s
  | .shutdownExit die => Sys2Proof.Machine.execShutdownExit die s
  | .lockoutEntry vs => Sys2Proof.Machine.execLockoutEntry vs s
  | .lockoutExit vs => Sys2Proof.Machine.execLockoutExit vs s
  | .sagEpisodeOpen vs => Sys2Proof.Machine.execSagEpisodeOpen vs s
  | .sagEpisodeClose vs => Sys2Proof.Machine.execSagEpisodeClose vs s
  | .stopInputRelease => Sys2Proof.Machine.execStopInputRelease s
  | .stationClockTick => Sys2Proof.Machine.execStationClockTick s
  | .openLoadRearm c x => Sys2Proof.Machine.execOpenLoadRearm c x s
  | .currentMeasurement c x => Sys2Proof.Machine.execCurrentMeasurement c x s

end Sys2Proof.Machine
end

