-- ==== Sys2Proof/Machine/Drive.lean ====
section
/-! DEFINITION. What the station puts on the two wires, by the state of its line controller and the place in the frame
(spec/02_the_share_line.md R18, R19, R22, R26, R32, R34, R35). -/

namespace Sys2Proof.Machine

/-- A bit time of SHD, by its place in the frame (R39), with what a receiver has read when it decides on it. -/
inductive BitTime where
  | startBit
  /-- A bit of the arbitration field, 0 to 8. -/
  | field (i : Nat)
  /-- A bit after the arbitration field, counted from the field's first bit: body, check, end bit. -/
  | body (i : Nat)
  /-- Spoil slot one, after these bits of the frame (from the arbitration field to the end bit). -/
  | slotOne (bits : List Bool)
  /-- A bit of the census answer field, 0 to 127. -/
  | answerBit (i : Nat)
  /-- Spoil slot two, after these 128 bits of the answer field. -/
  | slotTwo (bits : List Bool)
deriving DecidableEq, Repr

/-- A station's own position in a map. -/
def ownPosition (n : StationNo) (set : Bool) : BitVec 32 := if set then BitVec.twoPow 32 n.val else 0

/-- The four maps that a station writes: its own position where it sets it, every other bit clear (R34, R93). -/
def Answer.maps (a : Answer) (n : StationNo) : Maps :=
  ⟨ownPosition n a.joined, ownPosition n a.syncing, ownPosition n a.attention, ownPosition n a.dissent⟩

/-- What the station puts on SHD in a bit time, recessive where it leaves the wire free (R18, R19): its own field while ARBITRATING, its
own frame while SENDING, up to a bit at which it collides (R32), an objection while RECEIVING, its answer and its objection while ANSWERING. -/
def State.dataOut (s : State) (t : BitTime) : Bool :=
  match s.line.state, t with
  | .arbitrating, .startBit => false
  | .arbitrating, .field i => (arbitrationBits s.line.sentRank s.number).getD i true
  | .sending, .body i =>
    match s.line.ownFrame with
    | some f => s.line.collided || (frameBits s.number f).getD i true
    | none => true
  | .receiving, .slotOne bits => s.line.passive || (receiveBits bits).isSome
  | .answering, .answerBit i =>
    match s.line.answer with
    | some a => (mapsBits (a.maps s.number)).getD i true
    | none => true
  | .answering, .slotTwo bits =>
    match s.line.answer with
    | some a => !objects a s.number (readMaps bits)
    | none => true
  | _, _ => true

/-- What the station puts on SHH: dominant until it has finished taking the accepted frame (R18, R28). -/
def State.holdOut (s : State) : Bool := !s.drivesHold

/-- What SHD reads in a bit time, with what the other stations put out (R18). -/
def State.dataLevel (s : State) (others : List Bool) (t : BitTime) : Bool := wireLevel (s.dataOut t :: others)

/-- What SHH reads, with what the other stations put out (R18). -/
def State.holdLevel (s : State) (others : List Bool) : Bool := wireLevel (s.holdOut :: others)

end Sys2Proof.Machine
end

