-- ==== Sys2Proof/Safety.lean ====
section
/-! DEFINITION. What the rules of spec/ promise of every state, as predicates: the terms in which safety is stated. Each is decidable
on a concrete state. -/

namespace Sys2Proof.Safety

open Sys2Proof.Machine

/-- R19, R81: the line controller is OFF_LINE exactly while the station does not participate. -/
abbrev LineFollowsStation (s : State) : Prop := s.participating = true ↔ s.line.state ≠ .offLine

/-- R16, R17: a station that is not JOINED holds the empty pool state. -/
abbrev PoolEmptyUnlessJoined (s : State) : Prop := s.member.station ≠ .joined → s.pool = emptyPool

/-- R56: a station that does not participate holds an empty transmit queue. -/
abbrev QueueEmptyOffLine (s : State) : Prop := s.participating = false → s.queue = emptyQueue

/-- R81, R109: at a station that is not JOINED every channel's counted units are zero. -/
abbrev CountsZeroUnlessJoined (s : State) : Prop := s.member.station ≠ .joined → ∀ c : ChanNo, (s.channel c).counted = 0

/-- R81, R111: at a station that is not JOINED every channel is OFF, DISABLED or FAULTED. -/
abbrev IdleUnlessJoined (s : State) : Prop :=
  s.member.station ≠ .joined →
    ∀ c : ChanNo, (s.channel c).state = .off ∨ (s.channel c).state = .disabled ∨ (s.channel c).state = .faulted

/-- R81: the timers that may run in each station state. -/
abbrev TimersFollowStation (s : State) : Prop :=
  (s.member.station ≠ .joined → s.member.censusTimer = none ∧ s.member.silenceTimer = none)
    ∧ (s.member.station ≠ .syncing → s.member.syncTimer = none)
    ∧ (s.member.station ≠ .isolated → s.member.rejoinTimer = none)

/-- R2, R82: the pool terms are held exactly from the successful COMMIT on. -/
abbrev TermsHeldOnceCommitted (s : State) : Prop := s.terms = none ↔ s.member.station = .unconfigured

/-- R123, R128: the stop latch is set only at a JOINED station. -/
abbrev LatchOnlyJoined (s : State) : Prop := s.chan.latch = true → s.member.station = .joined

/-- The slot a frame kind belongs to (R41). -/
def contentOwner : Content → Owner
  | .claim c _ _ _ _ => .channel c
  | .release c _ _ _ => .channel c
  | .shed _ _ => .shed
  | .go _ => .go
  | .join _ => .membership
  | .snapshot => .membership
  | .note _ _ => .note

/-- R41, R40, R31: no two entries of one owner, every kind in its own slot, attempt counts 0 to 7. -/
abbrev SlotsWellKept (q : TxQueue) : Prop :=
  (q.entries.map Entry.owner).Nodup
    ∧ (∀ e ∈ q.entries, contentOwner e.content = e.owner ∧ e.attempts ≤ Config.maxAttempts)
    ∧ (∀ a ∈ q.stop, a.attempts ≤ Config.maxAttempts) ∧ (∀ a ∈ q.census, a.attempts ≤ Config.maxAttempts)

/-- R45, R46, R32: what bears the on-line flag is what the line controller carries, and only a sender has collided. -/
abbrev OnLineCarried (s : State) : Prop :=
  (∀ e ∈ s.queue.entries, e.onLine = true → s.line.ownFrame.isSome = true ∧ s.line.offer = some (.entry e.owner))
    ∧ (∀ a ∈ s.queue.stop, a.onLine = true → s.line.ownFrame.isSome = true ∧ s.line.offer = some .stop)
    ∧ (∀ a ∈ s.queue.census, a.onLine = true → s.line.ownFrame.isSome = true ∧ s.line.offer = some .census)
    ∧ (s.line.ownFrame.isSome = true → s.line.state = .sending ∨ s.line.state = .answering)
    ∧ (s.line.collided = true → s.line.state = .sending)

/-- R50, R53: a STOP is owed only behind a STOP for one station on the line, a raise deferred only behind a SHED on the line. -/
abbrev OwedBehindLine (q : TxQueue) : Prop :=
  (q.stopOwed = true → q.stop.any (fun a => a.onLine && a.target.isSome) = true)
    ∧ (q.deferredRaise = true → q.frozen .shed = true)

/-- R40 to R53: the transmit queue in order, whatever the line carries. -/
structure QueueKept (s : State) : Prop where
  slots : SlotsWellKept s.queue
  carried : OnLineCarried s
  owed : OwedBehindLine s.queue

/-- R166, R29: at most four notes, and notes are held only while the queue is full. -/
abbrev NotesBounded (s : State) : Prop :=
  s.port.notes.length ≤ Config.noteCapacity
    ∧ (s.line.heldNotes ≠ [] → s.port.notes.length = Config.noteCapacity)

/-- R9: at most 24 entries, no two for one station and channel, none of a class below the shed level. -/
abbrev WaitListKept (p : Pool) : Prop :=
  p.waitList.length ≤ Config.waitCapacity
    ∧ (p.waitList.map fun e => (e.station, e.channel)).Nodup
    ∧ ∀ e ∈ p.waitList, p.level ≤ e.cls

/-- R7: every class total below the shed level is zero in every row. -/
abbrev ShedClassesZero (p : Pool) : Prop := ∀ (n : StationNo) (k : PriClass), k < p.level → p.rows[n].totals[k] = 0

/-- R3, R4: misses are 0 to 3, and an ABSENT row holds nothing and no misses. -/
abbrev RowsKept (p : Pool) : Prop :=
  ∀ n : StationNo, p.rows[n].misses ≤ 3
    ∧ (p.rows[n].present = false → p.rows[n].misses = 0 ∧ ∀ k : PriClass, p.rows[n].totals[k] = 0)

/-- R9, R10, R4: an entry's station is PRESENT. -/
abbrev EntriesPresent (p : Pool) : Prop := ∀ e ∈ p.waitList, p.rows[e.station].present = true

/-- What R7, R9, R4 and R11 say a pool state is within a limit. -/
structure PoolKept (limit : Nat) (p : Pool) : Prop where
  waits : WaitListKept p
  shed : ShedClassesZero p
  rows : RowsKept p
  entries : EntriesPresent p
  within : poolSum p ≤ limit

/-- R121: the start queue holds the channels in START_WAIT, each once. -/
abbrev StartQueueExact (s : State) : Prop :=
  s.chan.startQueue.Nodup ∧ ∀ c : ChanNo, c ∈ s.chan.startQueue ↔ (s.channel c).state = .startWait

/-- R121: the head of the start queue does not wait while the timer is stopped and the latch clear. -/
abbrev HeadStarted (s : State) : Prop := s.chan.spacing = none → s.chan.latch = false → s.chan.startQueue = []

/-- R131: the probe queue holds the channels in PROBING, each once. -/
abbrev ProbeQueueExact (s : State) : Prop :=
  s.probe.queue.Nodup ∧ ∀ c : ChanNo, c ∈ s.probe.queue ↔ (s.channel c).state = .probing

/-- R108, R112: a start request is held exactly in PROBING, and the inrush timer runs exactly in INRUSH. -/
abbrev RecordsExact (s : State) : Prop :=
  ∀ c : ChanNo, ((s.channel c).startReq.isSome = true ↔ (s.channel c).state = .probing)
    ∧ ((s.channel c).inrushTimer.isSome = true ↔ (s.channel c).state = .inrush)

/-- R142, R143: a channel is FAULTED exactly while it holds a stopping record, but for the releasing that follows CLEAR_FAULT. -/
abbrev FaultsExact (s : State) : Prop :=
  ∀ c : ChanNo, (s.channel c).state = .faulted ↔ (s.channel c).fault.any (fun r => r.stopping) = true

/-- R107, R130: a channel is DISABLED exactly where no configuration is committed or its enable is off. -/
abbrev DisabledExact (s : State) : Prop :=
  ∀ c : ChanNo, (s.channel c).state = .disabled ↔ ¬ (s.terms.isSome = true ∧ (s.cfg c).enable = true)

/-- R110: what each channel state holds and has pending. -/
def channelFits (s : State) (c : ChanNo) : Prop :=
  let x := s.channel c
  let u := s.queue.frozen (.channel c)
  match x.state with
  | .disabled | .off | .probing | .waiting => x.counted = 0 ∧ s.pendingFrame c = .none ∧ x.followUp = false
  | .claiming => x.counted = 0 ∧ s.pendingFrame c = .claim ∧ x.followUp = false
  | .armed | .startWait | .inrush => x.counted = (s.cfg c).inrush ∧ s.pendingFrame c = .none ∧ x.followUp = false
  | .run =>
    x.followUp = false
      ∧ ((s.pendingFrame c = .trim ∧ x.counted = (s.cfg c).inrush) ∨ (s.pendingFrame c = .none ∧ x.counted = (s.cfg c).hold))
  | .releasing =>
    (s.pendingFrame c = .full ∧ x.followUp = false) ∨ (s.pendingFrame c = .withdraw ∧ x.counted = 0 ∧ x.followUp = false)
      ∨ (s.pendingFrame c = .claim ∧ u = true ∧ x.counted = 0 ∧ x.followUp = true)
      ∨ (s.pendingFrame c = .trim ∧ u = true ∧ x.followUp = true)
  | .faulted =>
    (s.pendingFrame c = .none ∧ x.counted = 0 ∧ x.followUp = false) ∨ (s.pendingFrame c = .full ∧ x.followUp = false)
      ∨ (s.pendingFrame c = .trim ∧ u = true ∧ x.followUp = true)

/-- The units a channel counts in a class. -/
def countedIn (s : State) (k : PriClass) (c : ChanNo) : Nat := if (s.cfg c).cls = k then (s.channel c).counted else 0

/-- R109: at a JOINED station each class total of the own row is the sum of the counted units of the own channels of that class. -/
abbrev OwnRowMirrors (s : State) : Prop :=
  s.member.station = .joined →
    ∀ k : PriClass, s.pool.rows[s.number].totals[k] = (allChannels.map (countedIn s k)).sum

/-- R116: every wait-list entry naming this station names a channel that is WAITING, or RELEASING with a WITHDRAW. -/
abbrev OwnEntriesWait (s : State) : Prop :=
  ∀ e ∈ s.pool.waitList, e.station = s.number →
    (s.channel e.channel).state = .waiting
      ∨ ((s.channel e.channel).state = .releasing ∧ s.pendingFrame e.channel = .withdraw)

/-- R56, R108: at a station that is not JOINED no channel has a frame pending, owes a follow-up or waits to start. -/
abbrev NothingOwedUnlessJoined (s : State) : Prop :=
  s.member.station ≠ .joined →
    s.chan.startQueue = [] ∧ ∀ c : ChanNo, s.slotEmpty c = true ∧ (s.channel c).followUp = false

/-- What R16, R17, R19, R56, R81, R82, R109 and R123 say of every station: its blocks agree with its station state. -/
structure BlocksAgree (s : State) : Prop where
  line : LineFollowsStation s
  pool : PoolEmptyUnlessJoined s
  queue : QueueEmptyOffLine s
  counts : CountsZeroUnlessJoined s
  idle : IdleUnlessJoined s
  owed : NothingOwedUnlessJoined s
  timers : TimersFollowStation s
  terms : TermsHeldOnceCommitted s
  latch : LatchOnlyJoined s

/-- R112, R113, R122: what a channel's frame carries is its configuration's class and units, or what the channel counts. -/
def frameFits (s : State) (c : ChanNo) : Content → Prop
  | .claim d k u _ _ => d = c ∧ k = (s.cfg c).cls ∧ u = (s.cfg c).inrush
  | .release d k u .full => d = c ∧ k = (s.cfg c).cls ∧ u = (s.channel c).counted
  | .release d k u .trim =>
    d = c ∧ k = (s.cfg c).cls ∧ u = (s.cfg c).inrush - (s.cfg c).hold ∧ (s.channel c).counted = (s.cfg c).inrush
  | .release d k _ .withdraw => d = c ∧ k = (s.cfg c).cls
  | _ => False

/-- R23, R45: the frame on the line is the content of the entry that carries it. -/
abbrev LineCarriesEntry (s : State) : Prop :=
  (∀ e ∈ s.queue.entries, e.onLine = true → e.content ≠ .snapshot → s.line.ownFrame = some (freeze s e.content))
    ∧ ∀ f, s.line.ownFrame = some f → frameRank f = 3 ∨ frameRank f = 7 →
        ∃ e ∈ s.queue.entries, e.onLine = true ∧ freeze s e.content = f

/-- R109 with all that it rests on at one station (R107, R108, R110, R112, R113, R116, R121, R131, R142). -/
structure Accounted (s : State) : Prop where
  blocks : BlocksAgree s
  queue : QueueKept s
  pool : PoolKept s.limit s.pool
  fits : ∀ c : ChanNo, channelFits s c
  starts : StartQueueExact s
  head : HeadStarted s
  probes : ProbeQueueExact s
  records : RecordsExact s
  faults : FaultsExact s
  disabled : DisabledExact s
  settings : s.terms.isSome = true → ∀ c : ChanNo, (s.cfg c).hold ≤ (s.cfg c).inrush
  frames : ∀ (c : ChanNo), ∀ e ∈ s.queue.entries, e.owner = .channel c → frameFits s c e.content
  carries : LineCarriesEntry s
  entries : ∀ e ∈ s.pool.waitList, e.station = s.number → e.units = (s.cfg e.channel).inrush ∧ e.cls = (s.cfg e.channel).cls
  waits : OwnEntriesWait s
  mirrors : OwnRowMirrors s

/-- R184: every channel is OFF, DISABLED, or FAULTED with counted units 0, with nothing pending and no follow-up owed. -/
def quiescentChannel (s : State) (c : ChanNo) : Bool :=
  (decide ((s.channel c).state = .off) || decide ((s.channel c).state = .disabled)
      || (decide ((s.channel c).state = .faulted) && decide ((s.channel c).counted = 0)))
    && s.slotEmpty c && !(s.channel c).followUp

/-- R184: a JOINED station whose channels hold, have pending and owe nothing. -/
def quiescent (s : State) : Bool := s.isJoined && allChannels.all (quiescentChannel s)

end Sys2Proof.Safety
end

