-- ==== Sys2Proof/WellFormed.lean ====
section
/-! DEFINITION. Which commands are well formed: an accepted frame has a body in range (R25, R39), and UNKNOWN carries a code that
R159's table does not hold (R170). Every other command is well formed whatever its operands: the requests check theirs. -/

namespace Sys2Proof

def Instr.wellFormed (i : Instr) : Bool :=
  match i with
  | .unknown code => !(Machine.knownCodes.contains code)
  | _ =>
    match Machine.frameOf i with
    | some (_, f) => Machine.frameInRange f
    | none => true

end Sys2Proof
end

