-- ==== Sys2Proof/Certificates/Slice0/Obligations.lean ====
section
/-! DEFINITION. The statements for the provers, in the words of spec/. A statement about a command concludes that `exec` answers a next
state, written out: what is not named in it is as it was. -/

namespace Sys2Proof.Obl

open Sys2Proof.Machine Sys2Proof.Safety

/-! ### Words that the statements use -/

/-- The command answers this next state. -/
abbrev Gives (c : Instr) (s t : State) : Prop := exec c s = .next t

/-- The summary of the transaction (R159): the one sampled when CSN fell, while nothing of it is decided, or, where that fall and the
decision are one event (log 6), the present one. -/
def summaryTaken (s : State) : Byte := if s.port.reply = none then s.port.sampled.getD s.summary else s.summary

/-- The station with a reply returned and nothing else changed (R159, R160): its transaction is open, with its summary taken. -/
def replied (s : State) (o : ReqOutcome) (v : BitVec 16) : State :=
  { s with port := { s.port with reply := some ⟨summaryTaken s, o, v⟩, sampled := some (summaryTaken s) } }

/-- The flags with some more of them pending (R164). -/
def pend (flags : Vector Bool 27) (l : List (Fin 27)) : Vector Bool 27 := l.foldl (fun v (i : Fin 27) => v.set i true) flags

/-- The numbers of the flags of one channel (R164). -/
def faultFlag (c : ChanNo) : Fin 27 := ⟨9 + c.val, by omega⟩
def stoppedFlag (c : ChanNo) : Fin 27 := ⟨15 + c.val, by omega⟩
def startedFlag (c : ChanNo) : Fin 27 := ⟨21 + c.val, by omega⟩

/-- The station with flags raised and nothing else changed. -/
def flagged (s : State) (l : List (Fin 27)) : State := { s with port := { s.port with flags := pend s.port.flags l } }

/-- One channel record replaced. -/
def putChannel (k : ChanCtl) (c : ChanNo) (x : Channel) : ChanCtl := { k with channels := k.channels.set c x }

/-- An entry placed as the newest, unsent, with count 0 (R40). -/
def placed (q : TxQueue) (o : Owner) (k : Content) : TxQueue := { q with entries := q.entries ++ [⟨o, k, 0, false⟩] }

/-- An owner's slot emptied; the others keep their order (R41, R44). -/
def emptied (q : TxQueue) (o : Owner) : TxQueue := { q with entries := q.entries.filter fun e => decide (e.owner ≠ o) }

/-- The content of an owner's slot rewritten; place and count stay (R44). -/
def rewritten (q : TxQueue) (o : Owner) (k : Content) : TxQueue :=
  { q with entries := q.entries.map fun e => if e.owner = o then { e with content := k } else e }

/-- The line once the entry of `o` is removed: an offer in arbitration is gone (R23). -/
def unoffered (s : State) (o : Owner) : Line :=
  if s.line.state = .arbitrating ∧ s.line.offer = some (.entry o) then { s.line with offer := none } else s.line

/-- The line controller after an accepted frame: HOLDING, or STUCK where the hold limit passed during the frame (R27, R36). -/
def held (l : Line) : Line :=
  { state := if l.holdStuck then .stuck else .holding, listening := l.listening && !l.holdStuck, offer := none, sentRank := 0,
    ownFrame := none, passive := false, collided := false, holdStuck := false, answer := none, heldNotes := l.heldNotes }

/-- The line controller after a spoiled frame: IDLE, or STUCK where the hold limit passed during the frame (R26, R36). -/
def idled (l : Line) : Line :=
  { state := if l.holdStuck then .stuck else .idle, listening := l.listening && !l.holdStuck, offer := none, sentRank := 0,
    ownFrame := none, passive := false, collided := false, holdStuck := false, answer := none, heldNotes := l.heldNotes }

/-- The station receives another's frame that is accepted: RECEIVING, or the passages of log 3, of which a lost arbitration is one to a
frame of a lower pair (R22). -/
def hears (s : State) (n : StationNo) (f : Frame) : Prop :=
  (s.line.state = .receiving ∧ s.line.passive = false)
    ∨ (s.line.state = .arbitrating ∧ arbitrationKey (frameRank f) n < arbitrationKey s.line.sentRank s.number)
    ∨ (s.line.state = .idle ∧ s.line.listening = true)

/-- The station sends this very frame. -/
def sends (s : State) (n : StationNo) (f : Frame) : Prop :=
  s.line.state = .sending ∧ s.line.collided = false ∧ s.line.ownFrame = some f ∧ n = s.number

/-- The commands that are host requests (R159): all but UNKNOWN have a listed code. -/
def isRequest (c : Instr) : Prop := (encodeRequest c).isSome = true ∧ c.wellFormed = true

/-- The flags of the channels that a test picks out. -/
def stoppedOf (hit : ChanNo → Bool) : List (Fin 27) := (allChannels.filter hit).map stoppedFlag

/-- The flags of `t` are those of `s` with `l` raised. -/
def Raises (s t : State) (l : List (Fin 27)) : Prop := ∀ i : Fin 27, t.port.flags[i] = (s.port.flags[i] || decide (i ∈ l))

/-- What isolation with reason `r` makes of a station (R103, R128, R102). -/
def IsolatedFrom (r : IsoReason) (s t : State) : Prop :=
  t = { s with
        pool := emptyPool, line := offLine, queue := emptyQueue, probe := idleProbe
        member :=
          { station := .isolated, reason := r, syncCount := 0, lastCensus := s.member.lastCensus, censusTimer := none
            silenceTimer := none, syncTimer := none
            rejoinTimer :=
              if s.settings.autoRejoin = true ∧ r ≠ .duplicate ∧ r ≠ .mismatch then some (2 * s.interval) else none }
        chan := t.chan
        port := { s.port with flags := t.port.flags } }
    ∧ t.chan.startQueue = [] ∧ t.chan.spacing = none ∧ t.chan.latch = false
    ∧ (∀ c : ChanNo, t.channel c =
        { s.channel c with
          state := if (s.channel c).state = .faulted ∨ (s.channel c).state = .disabled then (s.channel c).state else .off
          counted := 0, followUp := false, startReq := none, inrushTimer := none
          lastReason := if (s.channel c).state.inService then some .isolated else (s.channel c).lastReason })
    ∧ Raises s t (0 :: (if s.line.heldNotes = [] then [] else [7]) ++ stoppedOf fun c => (s.channel c).state.inService)

end Sys2Proof.Obl

open Sys2Proof Sys2Proof.Machine Sys2Proof.Safety Sys2Proof.Obl

/-! ### The machine's step, resets, the SPI transaction -/

/-- The model's own frame (log 5): commands are taken first in, first out; an empty queue idles. -/
def Obligations.StepRunsFrontCommand : Prop :=
  (∀ (c : Instr) (rest : List Instr) (s : State), s.pending = c :: rest → step s = exec c { s with pending := rest })
    ∧ ∀ s : State, s.pending = [] → step s = .next s

/-- No command stops the station, and none touches the commands that wait. Of a request R160 and R170 say so; that an event which cannot
happen leaves the station as it is, is the model's choice (log 2), and so is the queue of waiting commands (log 5). -/
def Obligations.EveryCommandCompletes : Prop :=
  ∀ (c : Instr) (s : State), ∃ t, exec c s = .next t ∧ t.pending = s.pending

/-- What the spec gives for reset (R17, R19, R56, R82, R130, R136, R156, R157, R161, R167, R168); pins aside (log 1). That
the open-load detector's mark is clear is the model's choice (log 25). -/
def Sys2Proof.Obl.ResetHoldsGivenValues : Prop :=
  State.reset.member.station = .unconfigured ∧ State.reset.member.reason = .none ∧ State.reset.member.syncCount = 0
    ∧ State.reset.member.lastCensus = ⟨0, 0, 0, 0⟩ ∧ State.reset.member.censusTimer = none
    ∧ State.reset.member.silenceTimer = none ∧ State.reset.member.syncTimer = none ∧ State.reset.member.rejoinTimer = none
    ∧ State.reset.terms = none ∧ State.reset.pool.level = 0 ∧ State.reset.pool.waitList = []
    ∧ (∀ n : StationNo, State.reset.pool.rows[n] = ⟨false, 0, #v[0, 0, 0, 0]⟩)
    ∧ State.reset.line.state = .offLine ∧ State.reset.queue = ⟨[], none, false, none, false⟩
    ∧ (∀ c : ChanNo, { State.reset.channel c with group := 0 } = ⟨.disabled, 0, 0, false, none, none, none, none, 0, false⟩)
    ∧ State.reset.chan.startQueue = [] ∧ State.reset.chan.spacing = none ∧ State.reset.chan.latch = false
    ∧ State.reset.probe = ⟨[], 0, 0⟩ ∧ State.reset.monitor.clock = 0 ∧ State.reset.monitor.goTime = 0
    ∧ State.reset.settings.poolLimit = 0 ∧ State.reset.settings.censusCode = 0 ∧ State.reset.settings.startSpacing = 0
    ∧ State.reset.settings.sagCode = 0 ∧ State.reset.settings.sagShedding = false ∧ State.reset.settings.autoRejoin = false
    ∧ State.reset.settings.pairLock = #v[false, false, false]
    ∧ (∀ c : ChanNo, State.reset.cfg c = ⟨false, 0, 0, 1, 0, 1, 1, 0, true, false, 0, 65535, false⟩)
    ∧ (∀ i : Fin 27, State.reset.port.flags[i] = false ∧ State.reset.port.masks[i] = true)
    ∧ State.reset.port.notes = [] ∧ (∀ i : Fin 16, State.reset.port.staging[i] = 0#8) ∧ State.reset.attn = false
    ∧ State.reset.pending = []

/-- POWER_ON and PIN_RESET have one effect, whatever the station was (R82, R130, R149, R154, R168): the values of reset, with the
number, the STOP input, the temperature and the supply as they are at the pins. The values of State.reset that the spec does not give are
the model's (the granted group log 9, the open-load detector's mark log 25). -/
def Sys2Proof.Obl.HardResetSetsStation : Prop :=
  ∀ (p : PinSample) (s : State), ∃ t, exec (.powerOn p) s = .next t ∧ exec (.pinReset p) s = .next t
    ∧ t = { State.reset with
        number := p.address
        stopInput := p.stopAsserted
        monitor := { State.reset.monitor with temperature := t.monitor.temperature, supply := t.monitor.supply }
        port := { State.reset.port with awaitCsn := p.csnLow }
        pending := s.pending }
    ∧ (150 ≤ p.die → t.monitor.temperature = .shutdown)
    ∧ (125 ≤ p.die → p.die < 150 → t.monitor.temperature = .warning)
    ∧ (p.die < 125 → t.monitor.temperature = .normal)
    ∧ (p.vs < 15000 → t.monitor.supply = .lockout) ∧ (15000 ≤ p.vs → t.monitor.supply = .normal)

/-- SOFT_RESET is decided ACCEPTED, and CSN's rise after exactly 32 bits carries it out (R168, R183): the number, the store, the terms,
the masks, the staging buffer, the clock and the GO time are kept, as are the level of the STOP input and each last current; the
temperature and supply states are set anew; the rest has its reset value. That the reply already returned is kept is the model's choice
(log 6), as are the reset values of the granted group (log 9) and of the open-load detector's mark (log 25); that a COMMIT has succeeded
is that terms are held is its reading (log 13). -/
def Sys2Proof.Obl.SoftResetCarriedOut : Prop :=
  (∀ s : State, s.port.awaitCsn = false →
    Gives .softReset s { s with port := { (replied s .accepted 0).port with softReset := true } })
  ∧ ∀ (die : Int) (vs : Nat) (s : State), s.port.awaitCsn = false → s.port.softReset = true →
    ∃ t, exec (.transactionEnd (.rise 32) die vs) s = .next t
      ∧ t = { State.reset with
          number := s.number, settings := s.settings, terms := s.terms, stopInput := s.stopInput
          member := { State.reset.member with station := if s.terms.isSome then .ready else .unconfigured }
          chan := { State.reset.chan with channels := t.chan.channels }
          monitor := { s.monitor with temperature := t.monitor.temperature, supply := t.monitor.supply }
          port := { State.reset.port with masks := s.port.masks, staging := s.port.staging, reply := s.port.reply }
          pending := s.pending }
      ∧ (∀ c : ChanNo, t.channel c =
          { State.reset.channel c with
            state := if s.terms.isSome = true ∧ (s.cfg c).enable = true then .off else .disabled
            lastCurrent := (s.channel c).lastCurrent })
      ∧ (150 ≤ die → t.monitor.temperature = .shutdown) ∧ (125 ≤ die → die < 150 → t.monitor.temperature = .warning)
      ∧ (die < 125 → t.monitor.temperature = .normal)
      ∧ (vs < 15000 → t.monitor.supply = .lockout) ∧ (15000 ≤ vs → t.monitor.supply = .normal)

/-- SDO (R158, R159): released exactly while CSN is high; the summary's bits from CSN's fall on, in a transaction that is never decided
too; all of the reply's bits, most significant first, from the decision on; released at CSN's rise. A bit not fixed when it is shifted, and
one past the reply, the spec does not give, and the model says so (log 26). -/
def Sys2Proof.Obl.SdoShiftsReply : Prop :=
  ∀ s : State,
    (∀ i : Nat, s.sdo i = .released ↔ s.port.sampled = none ∧ s.port.awaitCsn = false)
    ∧ (∀ (b : Byte) (i : Nat), s.port.sampled = some b → s.port.reply = none →
        s.sdo i = if i < 8 then .drives (b.getLsbD (7 - i)) else .unstated)
    ∧ (∀ (o : ReqOutcome) (v : BitVec 16) (i : Nat),
        (replied s o v).sdo i
          = if i < 32 then .drives ((summaryTaken s ++ o.code ++ v : BitVec 32).getLsbD (31 - i)) else .unstated)
    ∧ ∀ (die : Int) (vs bits : Nat), ∃ t, exec (.transactionEnd (.rise bits) die vs) s = .next t
        ∧ (s.port.awaitCsn = true → s.port.sampled = none → ∀ i : Nat, t.sdo i = .released)
        ∧ (s.port.awaitCsn = false → ∀ i : Nat, t.sdo i = .released)

/-- CSN rises with no soft reset to carry out (R158, R168): FRAMING for any count but 32, and a pending soft reset is dropped. CSN falls:
the transaction's summary is sampled (R159), which TRANSACTION_END carries beside the rise, for want of a row (log 6). -/
def Sys2Proof.Obl.TransactionEndChecksCount : Prop :=
  ∀ (die : Int) (vs : Nat) (s : State),
    (s.port.awaitCsn = false →
      (∀ bits : Nat, bits ≠ 32 →
        Gives (.transactionEnd (.rise bits) die vs) s
          { s with port := { s.port with softReset := false, sampled := none, flags := pend s.port.flags [8] } })
      ∧ (s.port.softReset = false →
        Gives (.transactionEnd (.rise 32) die vs) s { s with port := { s.port with sampled := none } })
      ∧ Gives (.transactionEnd .fall die vs) s
        { s with port := { s.port with sampled := some s.summary, reply := none } })
    ∧ (s.port.awaitCsn = true →
      (∀ bits : Nat, Gives (.transactionEnd (.rise bits) die vs) s { s with port := { s.port with awaitCsn := false } })
      ∧ Gives (.transactionEnd .fall die vs) s s)

/-- The bits taken from SDI decide a request at its decision point and none before it; the value is its high and its low byte, and bits
past the 32nd are not examined (R158, R159). -/
def Sys2Proof.Obl.HostBitsDecide : Prop :=
  (∀ sdi : List Bool, sdi.length < 16 → decidedBy sdi = none)
  ∧ (∀ (code index high low : Byte) (more : List Bool),
      decidedBy (bytesBits [code, index, high, low] ++ more) = some (decodeRequest code index (high ++ low)))
  ∧ ∀ (code index : Byte) (more : List Bool), more.length < 16 →
      decidedBy (bytesBits [code, index] ++ more)
        = if code.toNat ∈ [0x01, 0x10, 0x11, 0x30, 0x31, 0x40, 0x51] then none else some (decodeRequest code index 0)

/-- A code outside R159's table is refused UNKNOWN, and the station is left as it was (R170). -/
def Sys2Proof.Obl.UnknownCodeRefused : Prop :=
  ∀ (code : Byte) (s : State), s.port.awaitCsn = false →
    (∀ k ∈ [0x01, 0x02, 0x03, 0x10, 0x11, 0x12, 0x13, 0x20, 0x21, 0x22, 0x23, 0x30, 0x31, 0x32, 0x33, 0x40, 0x50, 0x51, 0x7F],
      code.toNat ≠ k) →
    (∀ (index : Byte) (value : BitVec 16), decodeRequest code index value = .unknown code)
      ∧ Gives (.unknown code) s (replied s .unknown 0)

/-- While CSN is low from a hard reset on, the port counts no transaction, so no request is decided (R168). -/
def Sys2Proof.Obl.RequestsIgnoredUntilCsnRises : Prop :=
  ∀ (c : Instr) (s : State), isRequest c → s.port.awaitCsn = true → Gives c s s

/-- A refused request changes nothing but the reply, whose result is 0 except for INVALID (R160, R170). -/
def Obligations.RefusedRequestChangesNothing : Prop :=
  ∀ (c : Instr) (s t : State) (r : Reply), isRequest c → s.port.awaitCsn = false → exec c s = .next t → t.port.reply = some r →
    r.summary = summaryTaken s
      ∧ (r.outcome ≠ .accepted → t = replied s r.outcome r.result ∧ (r.outcome ≠ .invalid → r.result = 0))


/-! ### Configuration and START -/

namespace Sys2Proof.Obl

/-- The range of each configuration item (R161); none where the index names no item. -/
def itemRange (index : Nat) : Option (Nat × Nat) :=
  if index < 0x10 then
    ([(1, 4095), (5, 255), (0, 255), (0, 10), (0, 1), (0, 1), (0, 1), (0, 1), (0, 1)] : List (Nat × Nat))[index]?
  else if index < 0x70 then
    ([(0, 1), (0, 3), (0, 15), (1, 255), (0, 255), (1, 255), (1, 200), (0, 250), (0, 1), (0, 1), (0, 65535), (0, 65535),
      (0, 1)] : List (Nat × Nat))[index % 16]?
  else none

/-- One channel's items by number (R161). -/
def chanItemValue (x : ChanSettings) (n : Nat) : Nat :=
  match n with
  | 0 => x.enable.toNat
  | 1 => x.cls.val
  | 2 => x.group.val
  | 3 => x.inrush
  | 4 => x.hold
  | 5 => x.inrushTime
  | 6 => x.currentLimit
  | 7 => x.olThreshold
  | 8 => x.olReport.toNat
  | 9 => x.probe.toNat
  | 10 => x.openCount
  | 11 => x.shortCount
  | 12 => x.faultToPin.toNat
  | _ => 0

/-- The configuration items by index (R161). -/
def itemValue (st : Settings) (index : Nat) : Nat :=
  match index with
  | 0 => st.poolLimit
  | 1 => st.censusCode
  | 2 => st.startSpacing
  | 3 => st.sagCode
  | 4 => st.sagShedding.toNat
  | 5 => st.autoRejoin.toNat
  | 6 => st.pairLock[0].toNat
  | 7 => st.pairLock[1].toNat
  | 8 => st.pairLock[2].toNat
  | _ => if h : 0x10 ≤ index ∧ index < 0x70 then chanItemValue st.chans[(index - 0x10) / 16] (index % 16) else 0

/-- COMMIT's checks in order, each with the index it reports (R162). -/
def commitChecks (st : Settings) : List (Bool × Nat) :=
  [(decide (1 ≤ st.poolLimit ∧ st.poolLimit ≤ 4095), 0x00), (decide (5 ≤ st.censusCode ∧ st.censusCode ≤ 255), 0x01)]
    ++ allChannels.flatMap fun c =>
      [(decide (st.chans[c].inrush ≤ st.poolLimit), 0x13 + 16 * c.val),
        (decide (st.chans[c].hold ≤ st.chans[c].inrush), 0x14 + 16 * c.val),
        (!st.chans[c].probe || decide (st.chans[c].openCount < st.chans[c].shortCount), 0x1B + 16 * c.val)]

/-- A station in JOINING, entered from a station that held nothing (R83). -/
def joiningFrom (s : State) (t : Terms) : State :=
  { s with
    member := { s.member with station := .joining, rejoinTimer := none, syncCount := 0 }
    queue := ⟨[⟨.membership, .join t, 0, false⟩], none, false, none, false⟩
    line := { State.reset.line with state := .idle } }

end Sys2Proof.Obl

/-- SET_ITEM (R161, R171): STATE unless UNCONFIGURED, RANGE by R161's tables, else the one item takes the value. -/
def Obligations.SetItemWritesOneItem : Prop :=
  ∀ (index : Byte) (value : BitVec 16) (s : State), s.port.awaitCsn = false →
    (s.member.station ≠ .unconfigured → Gives (.setItem index value) s (replied s .state 0))
    ∧ (s.member.station = .unconfigured →
      (itemRange index.toNat = none → Gives (.setItem index value) s (replied s .range 0))
      ∧ ∀ lo hi : Nat, itemRange index.toNat = some (lo, hi) →
        (¬ (lo ≤ value.toNat ∧ value.toNat ≤ hi) → Gives (.setItem index value) s (replied s .range 0))
        ∧ (lo ≤ value.toNat → value.toNat ≤ hi → ∃ st : Settings,
            Gives (.setItem index value) s { replied s .accepted 0 with settings := st }
              ∧ itemValue st index.toNat = value.toNat
              ∧ ∀ j : Nat, j ≠ index.toNat → itemValue st j = itemValue s.settings j))

/-- COMMIT (R162, R107): its checks in order, INVALID with the first that fails; else terms, channels and station state. -/
def Obligations.CommitChecksThenLoads : Prop :=
  ∀ s : State, s.port.awaitCsn = false →
    (s.member.station ≠ .unconfigured → Gives .commit s (replied s .state 0))
    ∧ (s.member.station = .unconfigured →
      (∀ x, (commitChecks s.settings).find? (fun x => !x.1) = some x →
        Gives .commit s (replied s .invalid (BitVec.ofNat 16 x.2)))
      ∧ ((∀ x ∈ commitChecks s.settings, x.1 = true) → ∃ k : Vector Channel 6,
          Gives .commit s { replied s .accepted 0 with
              terms := some ⟨s.settings.poolLimit, s.settings.censusCode⟩
              chan := { s.chan with channels := k }
              member := { s.member with station := .ready } }
            ∧ ∀ c : ChanNo, k[c] =
                if (s.cfg c).enable = true ∧ (s.channel c).state = .disabled then { s.channel c with state := .off }
                else s.channel c))

/-- START and the rejoin timer's expiry enter JOINING alike (R83, R105, R172); START is refused STATE elsewhere. -/
def Obligations.StartAndRejoinEnterJoining : Prop :=
  ∀ (s : State), QueueEmptyOffLine s →
    (s.port.awaitCsn = false → s.member.station ≠ .ready → s.member.station ≠ .isolated →
      Gives .start s (replied s .state 0))
    ∧ ∀ t : Terms, s.terms = some t →
      (s.port.awaitCsn = false → s.member.station = .ready ∨ s.member.station = .isolated →
        Gives .start s { joiningFrom s t with port := (replied s .accepted 0).port })
      ∧ (∀ p : Nat, s.member.station = .isolated → s.member.rejoinTimer = some p →
        Gives .rejoinTimerExpiry s (joiningFrom s t))

/-! ### Channel requests -/

namespace Sys2Proof.Obl

/-- The other channel of a pair: 0 and 1, 2 and 3, 4 and 5 (R107). -/
def mate (c : ChanNo) : ChanNo :=
  match c with
  | 0 => 1
  | 1 => 0
  | 2 => 3
  | 3 => 2
  | 4 => 5
  | 5 => 4

/-- The conditions 2 to 10 of R111, in order, each with its outcome. -/
def startChecks (s : State) (c : ChanNo) (arm : Bool) : List (Bool × ReqOutcome) :=
  [(decide ((s.channel c).state = .disabled), .disabled),
    (decide (s.member.station ≠ .joined), .state),
    (decide ((s.channel c).state ≠ .off), .state),
    (arm && decide ((s.cfg c).group = 0), .noGroup),
    (decide (s.monitor.temperature = .shutdown), .hot),
    (decide (s.monitor.supply = .lockout), .supply),
    (s.chan.latch || s.stopInput, .stopped),
    (decide ((s.cfg c).cls < s.pool.level), .shed),
    (s.settings.pairLock[c.val / 2]
      && !(decide ((s.channel (mate c)).state = .off) || decide ((s.channel (mate c)).state = .disabled)
        || decide ((s.channel (mate c)).state = .faulted)), .pair)]

/-- ON, or ARM. -/
def startCommand (arm : Bool) (index : Byte) (value : BitVec 16) : Instr := if arm then .arm index value else .on index value

/-- The states in which a channel drives (R110). -/
def driving (s : State) (c : ChanNo) : Prop := (s.channel c).state = .inrush ∨ (s.channel c).state = .run

/-- The effect of OFF on an enabled channel, from the table of R113. -/
def offResult (s : State) (c : ChanNo) : State :=
  let x := s.channel c
  let full : Content := .release c (s.cfg c).cls x.counted .full
  match x.state with
  | .disabled | .off | .faulted | .releasing => s
  | .probing =>
    { s with
      chan := putChannel s.chan c { x with state := .off, startReq := none }
      probe :=
        { queue := s.probe.queue.filter fun d => decide (d ≠ c)
          reference := if s.probe.queue.head? = some c then 0 else s.probe.reference
          load := if s.probe.queue.head? = some c then 0 else s.probe.load } }
  | .claiming =>
    if s.queue.frozen (.channel c) then { s with chan := putChannel s.chan c { x with state := .releasing, followUp := true } }
    else
      { s with
        queue := emptied s.queue (.channel c), line := unoffered s (.channel c)
        chan := putChannel s.chan c { x with state := .off } }
  | .waiting =>
    { s with
      queue := placed s.queue (.channel c) (.release c (s.cfg c).cls 0 .withdraw)
      chan := putChannel s.chan c { x with state := .releasing } }
  | .armed =>
    { s with queue := placed s.queue (.channel c) full, chan := putChannel s.chan c { x with state := .releasing } }
  | .startWait =>
    { s with
      queue := placed s.queue (.channel c) full
      chan :=
        { putChannel s.chan c { x with state := .releasing } with
          startQueue := s.chan.startQueue.filter fun d => decide (d ≠ c) } }
  | .inrush =>
    { s with
      queue := placed s.queue (.channel c) full
      chan := putChannel s.chan c { x with state := .releasing, inrushTimer := none } }
  | .run =>
    match s.pendingFrame c with
    | .none =>
      if 0 < x.counted then
        { s with queue := placed s.queue (.channel c) full, chan := putChannel s.chan c { x with state := .releasing, inrushTimer := none } }
      else { s with chan := putChannel s.chan c { x with state := .off, inrushTimer := none } }
    | _ =>
      if s.queue.frozen (.channel c) then
        { s with chan := putChannel s.chan c { x with state := .releasing, inrushTimer := none, followUp := true } }
      else
        { s with
          queue := rewritten s.queue (.channel c) full
          chan := putChannel s.chan c { x with state := .releasing, inrushTimer := none } }

end Sys2Proof.Obl

/-- ON and ARM: the first condition that holds decides the refusal (R111). -/
def Obligations.OnArmRefusedInOrder : Prop :=
  ∀ (arm : Bool) (index : Byte) (value : BitVec 16) (s : State), s.port.awaitCsn = false →
    ((6 ≤ index.toNat ∨ 2 ≤ value.toNat) → Gives (startCommand arm index value) s (replied s .range 0))
    ∧ ∀ c : ChanNo, index.toNat = c.val → value.toNat ≤ 1 →
      (∀ x, (startChecks s c arm).find? (fun x => x.1) = some x → Gives (startCommand arm index value) s (replied s x.2 0))
      ∧ ((∀ x ∈ startChecks s c arm, x.1 = false) → ∃ t, exec (startCommand arm index value) s = .next t
          ∧ t.port.reply = (replied s .accepted 0).port.reply)

/-- A taken ON or ARM (R112): the CLAIM is placed, or with probe on the channel joins the probe queue with its start request. -/
def Obligations.OnArmTaken : Prop :=
  ∀ (arm : Bool) (index : Byte) (value : BitVec 16) (s : State) (c : ChanNo) (g : GroupNo), s.port.awaitCsn = false →
    index.toNat = c.val → value.toNat ≤ 1 → (∀ x ∈ startChecks s c arm, x.1 = false) → channelFits s c → SlotsWellKept s.queue →
    (arm = true → g = (s.cfg c).group) → (arm = false → g = 0) →
    ((s.cfg c).probe = false →
      Gives (startCommand arm index value) s { replied s .accepted 0 with
        chan := putChannel s.chan c { s.channel c with state := .claiming, startReq := none, lastReason := none }
        queue := placed s.queue (.channel c) (.claim c (s.cfg c).cls (s.cfg c).inrush g (decide (value.toNat = 1))) })
    ∧ ((s.cfg c).probe = true →
      Gives (startCommand arm index value) s { replied s .accepted 0 with
        chan := putChannel s.chan c
          { s.channel c with state := .probing, startReq := some ⟨g, decide (value.toNat = 1)⟩, lastReason := none }
        probe :=
          { queue := s.probe.queue ++ [c]
            reference := if s.probe.queue = [] then 0 else s.probe.reference
            load := if s.probe.queue = [] then 0 else s.probe.load } })

/-- OFF: RANGE, DISABLED, else the table of R113 by the channel's state, in every station state. -/
def Obligations.OffActsByState : Prop :=
  ∀ (index : Byte) (s : State), s.port.awaitCsn = false →
    (6 ≤ index.toNat → Gives (.off index) s (replied s .range 0))
    ∧ ∀ c : ChanNo, index.toNat = c.val →
      ((s.channel c).state = .disabled → Gives (.off index) s (replied s .disabled 0))
      ∧ ((s.channel c).state ≠ .disabled → channelFits s c → SlotsWellKept s.queue →
          Gives (.off index) s { offResult s c with port := (replied s .accepted 0).port })

/-- CLEAR_FAULT (R126): RANGE, DISABLED, STATE, HOT in order; else the record goes, and a FAULTED channel is OFF or RELEASING. -/
def Obligations.ClearFaultRemovesRecord : Prop :=
  ∀ (index : Byte) (s : State), s.port.awaitCsn = false →
    (6 ≤ index.toNat → Gives (.clearFault index) s (replied s .range 0))
    ∧ ∀ c : ChanNo, index.toNat = c.val →
      ((s.channel c).state = .disabled → Gives (.clearFault index) s (replied s .disabled 0))
      ∧ ((s.channel c).state ≠ .disabled → (s.channel c).fault = none → Gives (.clearFault index) s (replied s .state 0))
      ∧ ∀ r : FaultRecord, (s.channel c).state ≠ .disabled → (s.channel c).fault = some r →
        (s.monitor.temperature = .shutdown → r.kind = .thermal → Gives (.clearFault index) s (replied s .hot 0))
        ∧ (¬ (s.monitor.temperature = .shutdown ∧ r.kind = .thermal) → channelFits s c → SlotsWellKept s.queue →
          ∃ st : ChState,
            Gives (.clearFault index) s { replied s .accepted 0 with
              chan := putChannel s.chan c { s.channel c with fault := none, state := st } }
            ∧ ((s.channel c).state ≠ .faulted → st = (s.channel c).state)
            ∧ ((s.channel c).state = .faulted → s.pendingFrame c = .none → (s.channel c).followUp = false → st = .off)
            ∧ ((s.channel c).state = .faulted → s.pendingFrame c = .full ∨ (s.channel c).followUp = true → st = .releasing))

/-! ### Pool requests and the STOP input -/

namespace Sys2Proof.Obl

/-- The table of R50 for a stop request for ALL. -/
def stopAllMeets (q : TxQueue) : TxQueue :=
  match q.stop with
  | none => { q with stop := some ⟨none, 0, false⟩ }
  | some ⟨none, _, _⟩ => q
  | some ⟨some _, n, false⟩ => { q with stop := some ⟨none, n, false⟩ }
  | some ⟨some _, _, true⟩ => { q with stopOwed := true }

/-- The table of R50 for a stop request for one station; none is BUSY. -/
def stopStationMeets (q : TxQueue) (n : StationNo) : Option TxQueue :=
  match q.stop with
  | none => some { q with stop := some ⟨some n, 0, false⟩ }
  | some ⟨none, _, _⟩ => some q
  | some ⟨some m, _, _⟩ => if n = m then some q else none

end Sys2Proof.Obl

/-- GO (R176, R54): RANGE, STATE, BUSY in order, else a GO entry. -/
def Sys2Proof.Obl.GoPlacesEntry : Prop :=
  ∀ (index : Byte) (s : State), s.port.awaitCsn = false →
    (index.toNat = 0 ∨ 15 < index.toNat → Gives (.go index) s (replied s .range 0))
    ∧ ∀ g : GroupNo, index.toNat = g.val → 1 ≤ g.val →
      (s.member.station ≠ .joined → Gives (.go index) s (replied s .state 0))
      ∧ (s.member.station = .joined → (∃ e ∈ s.queue.entries, e.owner = .go) → Gives (.go index) s (replied s .busy 0))
      ∧ (s.member.station = .joined → (∀ e ∈ s.queue.entries, e.owner ≠ .go) →
          Gives (.go index) s { replied s .accepted 0 with queue := placed s.queue .go (.go g) })

/-- SET_SHED meets the shed slot (R177, R52): placed, rewritten keeping its count, or BUSY. -/
def Sys2Proof.Obl.SetShedMeetsSlot : Prop :=
  ∀ (index : Byte) (s : State), s.port.awaitCsn = false →
    (3 < index.toNat → Gives (.setShed index) s (replied s .range 0))
    ∧ ∀ l : ShedLevel, index.toNat = l.val →
      (s.member.station ≠ .joined → Gives (.setShed index) s (replied s .state 0))
      ∧ (s.member.station = .joined → SlotsWellKept s.queue →
        ((∀ e ∈ s.queue.entries, e.owner ≠ .shed) →
          Gives (.setShed index) s { replied s .accepted 0 with queue := placed s.queue .shed (.shed .set l) })
        ∧ ∀ e ∈ s.queue.entries, e.owner = .shed →
          (e.onLine = false →
            Gives (.setShed index) s { replied s .accepted 0 with queue := rewritten s.queue .shed (.shed .set l) })
          ∧ (e.onLine = true → Gives (.setShed index) s (replied s .busy 0)))

/-- POOL_STOP and the STOP input's assertion edge set the latch and request a STOP for ALL at a JOINED station (R123, R178, R50);
elsewhere the latch stays; a further assertion gives no edge; the release changes the level alone. -/
def Sys2Proof.Obl.StopRequestsForAll : Prop :=
  ∀ s : State,
    (s.port.awaitCsn = false → s.member.station ≠ .joined → Gives .poolStop s (replied s .state 0))
    ∧ (s.port.awaitCsn = false → s.member.station = .joined →
        Gives .poolStop s { replied s .accepted 0 with chan := { s.chan with latch := true }, queue := stopAllMeets s.queue })
    ∧ (s.stopInput = false → s.member.station = .joined →
        Gives .stopInputAssertion s
          { s with stopInput := true, chan := { s.chan with latch := true }, queue := stopAllMeets s.queue })
    ∧ (s.stopInput = false → s.member.station ≠ .joined → Gives .stopInputAssertion s { s with stopInput := true })
    ∧ (s.stopInput = true → Gives .stopInputAssertion s s)
    ∧ Gives .stopInputRelease s { s with stopInput := false }

/-- STATION_STOP (R179, R50): RANGE, STATE, BUSY in order, else the action is set or covers it; no latch is set. -/
def Sys2Proof.Obl.StationStopMeetsAction : Prop :=
  ∀ (index : Byte) (s : State), s.port.awaitCsn = false →
    (31 < index.toNat → Gives (.stationStop index) s (replied s .range 0))
    ∧ ∀ n : StationNo, index.toNat = n.val →
      (s.member.station ≠ .joined → Gives (.stationStop index) s (replied s .state 0))
      ∧ (s.member.station = .joined → stopStationMeets s.queue n = none → Gives (.stationStop index) s (replied s .busy 0))
      ∧ ∀ q : TxQueue, s.member.station = .joined → stopStationMeets s.queue n = some q →
          Gives (.stationStop index) s { replied s .accepted 0 with queue := q }

/-! ### Notes -/

/-- STAGE_NOTE_BYTE and SEND_NOTE (R167, R180, R54): the buffer's byte is replaced; the staged bytes are copied into a NOTE entry. -/
def Obligations.NotesStagedAndSent : Prop :=
  ∀ (index : Byte) (value : BitVec 16) (s : State), s.port.awaitCsn = false →
    ((15 < index.toNat ∨ 255 < value.toNat) → Gives (.stageNoteByte index value) s (replied s .range 0))
    ∧ (∀ i : Fin 16, index.toNat = i.val → value.toNat ≤ 255 →
        Gives (.stageNoteByte index value) s { replied s .accepted 0 with
          port := { (replied s .accepted 0).port with staging := s.port.staging.set i (BitVec.ofNat 8 value.toNat) } })
    ∧ (((31 < index.toNat ∧ index.toNat ≠ 255) ∨ value.toNat = 0 ∨ 16 < value.toNat) →
        Gives (.sendNote index value) s (replied s .range 0))
    ∧ ∀ target : Option StationNo, targetByte target = index → 1 ≤ value.toNat → value.toNat ≤ 16 →
      (s.member.station ≠ .joined → Gives (.sendNote index value) s (replied s .state 0))
      ∧ (s.member.station = .joined → (∃ e ∈ s.queue.entries, e.owner = .note) →
          Gives (.sendNote index value) s (replied s .busy 0))
      ∧ (s.member.station = .joined → (∀ e ∈ s.queue.entries, e.owner ≠ .note) →
          Gives (.sendNote index value) s { replied s .accepted 0 with
            queue := placed s.queue .note (.note target (s.port.staging.toList.take value.toNat)) })

/-- READ_NOTE_BYTE (R166, R181): STATE on an empty queue; data bytes, sender and length, target; RANGE elsewhere. -/
def Sys2Proof.Obl.ReadNoteByteReadsHead : Prop :=
  ∀ (index : Byte) (s : State), s.port.awaitCsn = false →
    (s.port.notes = [] → Gives (.readNoteByte index) s (replied s .state 0))
    ∧ ∀ (n : Note) (rest : List Note), s.port.notes = n :: rest → 1 ≤ n.data.length → n.data.length ≤ 16 →
      (∀ h : index.toNat < n.data.length,
        Gives (.readNoteByte index) s (replied s .accepted (BitVec.ofNat 16 (n.data[index.toNat]'h).toNat)))
      ∧ (index.toNat = 0x10 →
        Gives (.readNoteByte index) s (replied s .accepted (BitVec.ofNat 16 (256 * n.sender.val + n.data.length))))
      ∧ (index.toNat = 0x11 →
        Gives (.readNoteByte index) s (replied s .accepted (BitVec.ofNat 16 (targetByte n.target).toNat)))
      ∧ (n.data.length ≤ index.toNat → index.toNat ≠ 0x10 → index.toNat ≠ 0x11 →
        Gives (.readNoteByte index) s (replied s .range 0))

/-- DROP_NOTE removes the head and places the oldest held note in the same event; the 5 ms expiry drops the oldest held note (R29, R166,
R181). That a note stays held in STUCK, so that both are said of every line state, and that several may then be held, is the model's
reading (log 8). -/
def Sys2Proof.Obl.NoteLeavesByDropOrExpiry : Prop :=
  ∀ s : State,
    (s.port.awaitCsn = false → s.port.notes = [] → Gives .dropNote s (replied s .state 0))
    ∧ (∀ (n : Note) (rest : List Note), s.port.awaitCsn = false → s.port.notes = n :: rest →
      (s.line.heldNotes = [] →
        Gives .dropNote s { s with port := { (replied s .accepted 0).port with notes := rest } })
      ∧ ∀ (m : Note) (more : List Note), s.line.heldNotes = m :: more →
        Gives .dropNote s { s with
          line := { s.line with heldNotes := more }
          port := { (replied s .accepted 0).port with notes := rest ++ [m], flags := pend s.port.flags [6] } })
    ∧ (∀ (m : Note) (more : List Note), s.line.heldNotes = m :: more →
        Gives .noteHoldExpiry s { flagged s [7] with line := { s.line with heldNotes := more } })

/-! ### Reads, events, masks -/

namespace Sys2Proof.Obl

/-- The four maps in the order of items 30h to 37h. -/
def mapOf (m : Maps) (i : Nat) : BitVec 32 := if i = 0 then m.joined else if i = 1 then m.syncing else if i = 2 then m.attention else m.dissent

/-- A fault record's field as items 05h to 09h read it: 0 where no record is held (R163). -/
def faultItem (x : Channel) (f : FaultRecord → Nat) : Nat := (x.fault.map f).getD 0

/-- The items of R163 that are numbers below 65536, as (index, selector, value), for every selector in range. -/
def readable (s : State) : List (Nat × Nat × Nat) :=
  allChannels.flatMap (fun c =>
    let x := s.channel c
    [(0x01, c.val, x.state.code), (0x02, c.val, x.counted), (0x03, c.val, (x.lastReason.map Reason.code).getD 0),
      (0x04, c.val, x.lastCurrent), (0x05, c.val, faultItem x fun r => r.kind.code),
      (0x06, c.val, faultItem x fun r => if r.stopping then 0 else 1), (0x07, c.val, faultItem x fun r => r.found.code),
      (0x08, c.val, faultItem x fun r => r.repeated.toNat), (0x09, c.val, faultItem x fun r => r.value),
      (0x0A, c.val, faultItem x fun r => r.time.toNat / 65536), (0x0B, c.val, faultItem x fun r => r.time.toNat % 65536)])
  ++ (List.finRange 32).flatMap (fun n =>
    let r := s.pool.rows[n]
    [(0x20, n.val, r.present.toNat), (0x21, n.val, r.misses), (0x22, n.val, r.totals[0]), (0x23, n.val, r.totals[1]),
      (0x24, n.val, r.totals[2]), (0x25, n.val, r.totals[3])])

/-- The items that examine no selector (R163). -/
def readablePlain (s : State) : List (Nat × Nat) :=
  [(0x10, s.member.station.code), (0x11, s.member.reason.code), (0x12, s.pool.level.val), (0x13, poolSum s.pool),
    (0x14, s.limit - poolSum s.pool), (0x15, s.limit), (0x16, s.number.val), (0x17, s.queue.entries.length),
    (0x18, s.monitor.temperature.code), (0x19, s.monitor.supply.code), (0x28, s.pool.waitList.length),
    (0x38, s.monitor.goTime.toNat / 65536), (0x39, s.monitor.goTime.toNat % 65536), (0x3A, s.monitor.clock.toNat / 65536),
    (0x3B, s.monitor.clock.toNat % 65536)]
  ++ (List.range 4).flatMap fun i =>
    [(0x30 + 2 * i, (mapOf s.member.lastCensus i).toNat % 65536), (0x31 + 2 * i, (mapOf s.member.lastCensus i).toNat / 65536)]

/-- The five fields of a wait-list entry, items 29h to 2Dh (R163). -/
def entryFields (e : WaitEntry) : List (Nat × Nat) :=
  [(0x29, e.station.val), (0x2A, e.channel.val), (0x2B, e.cls.val), (0x2C, e.units), (0x2D, e.group.val)]

end Sys2Proof.Obl

/-- READ_ITEM returns the item of R163's table and changes nothing (R163, R182). -/
def Obligations.ReadItemReturnsItem : Prop :=
  ∀ (index : Byte) (sel : BitVec 16) (s : State), s.port.awaitCsn = false →
    (∀ v : Nat, (index.toNat, sel.toNat, v) ∈ readable s → Gives (.readItem index sel) s (replied s .accepted (BitVec.ofNat 16 v)))
    ∧ (∀ v : Nat, (index.toNat, v) ∈ readablePlain s → Gives (.readItem index sel) s (replied s .accepted (BitVec.ofNat 16 v)))
    ∧ (∀ (h : sel.toNat < s.pool.waitList.length) (v : Nat), (index.toNat, v) ∈ entryFields (s.pool.waitList[sel.toNat]'h) →
        Gives (.readItem index sel) s (replied s .accepted (BitVec.ofNat 16 v)))
    ∧ ((∀ v : Nat, (index.toNat, sel.toNat, v) ∉ readable s) → (∀ v : Nat, (index.toNat, v) ∉ readablePlain s) →
        (s.pool.waitList.length ≤ sel.toNat ∨ index.toNat < 0x29 ∨ 0x2D < index.toNat) →
        Gives (.readItem index sel) s (replied s .range 0))

/-- NEXT_EVENT and SET_MASK (R164, R165, R182): the lowest pending, unmasked flag; one mask; and when ATTN is active. -/
def Obligations.EventsReadAndMasked : Prop :=
  ∀ s : State,
    (s.attn = true ↔ ∃ i : Fin 27, s.port.flags[i] = true ∧ s.port.masks[i] = false)
    ∧ (s.port.awaitCsn = false →
      (s.attn = false → Gives .nextEvent s (replied s .accepted 0x00FF))
      ∧ (∀ i : Fin 27, s.port.flags[i] = true → s.port.masks[i] = false →
          (∀ j : Fin 27, j < i → s.port.flags[j] = false ∨ s.port.masks[j] = true) →
          Gives .nextEvent s { s with
            port := { (replied s .accepted (BitVec.ofNat 16 i.val)).port with flags := s.port.flags.set i false } })
      ∧ ∀ (index : Byte) (value : BitVec 16),
        ((26 < index.toNat ∨ 1 < value.toNat) → Gives (.setMask index value) s (replied s .range 0))
        ∧ ∀ i : Fin 27, index.toNat = i.val → value.toNat ≤ 1 →
          Gives (.setMask index value) s { s with
            port := { (replied s .accepted 0).port with masks := s.port.masks.set i (decide (value.toNat = 1)) } })

/-! ### The share line and the transmit queue's reports -/

namespace Sys2Proof.Obl

/-- What the queue offers at an opportunity, and its kind rank (R39, R43): the STOP action, the CENSUS action, the oldest entry of the
lowest rank. -/
def IsOffer (q : TxQueue) (c : Carrier) (rank : Nat) : Prop :=
  (q.stop ≠ none ∧ c = .stop ∧ rank = 0) ∨ (q.stop = none ∧ q.census ≠ none ∧ c = .census ∧ rank = 1)
    ∨ (q.stop = none ∧ q.census = none ∧ ∃ older e newer, q.entries = older ++ e :: newer ∧ c = .entry e.owner
        ∧ rank = contentRank e.content ∧ (∀ d ∈ q.entries, rank ≤ contentRank d.content)
        ∧ ∀ d ∈ older, rank < contentRank d.content)

/-- The frame that an entry's content becomes; a SNAPSHOT carries the terms and the pool state of the moment (R47). -/
def bodyOf (t : Terms) (p : Pool) : Content → Frame
  | .claim c k u g w => .claim c k u g w
  | .release c k u f => .release c k u f
  | .shed f l => .shed f l
  | .go g => .go g
  | .join t => .join t
  | .snapshot => .snapshot t p
  | .note t d => .note t d

/-- An entry's failed attempt: its count rises and it is unsent again (R30, R46). -/
def failedOnce (q : TxQueue) (o : Owner) : TxQueue :=
  { q with entries := q.entries.map fun e => if e.owner = o then { e with attempts := e.attempts + 1, onLine := false } else e }

/-- The sender reads on without spoiling and without applying (R33). -/
def readsOn (l : Line) : Line := { l with state := .receiving, passive := true, offer := none, ownFrame := none }

/-- The failed attempts of a frame: how each is met, and the line after it (R26, R30, R32, R33). -/
def failure (s : State) (i : Fin 3) : Instr × Line :=
  match i with
  | 0 => (.frameSpoiled, idled s.line)
  | 1 => (.duplicateCollision (.ends false), idled s.line)
  | 2 => (.readbackFault, readsOn s.line)

/-- Where a failed attempt can be met: SENDING, by the frame's end once it has collided, by a readback fault while it drives; ANSWERING at
the initiator, by spoil slot two; ARBITRATING, by a readback fault. -/
def failsIn (s : State) (i : Fin 3) : Prop :=
  (s.line.state = .sending ∧ (i = 1 → s.line.collided = true) ∧ (i = 2 → s.line.collided = false))
    ∨ (i = 0 ∧ s.line.state = .answering ∧ s.line.ownFrame ≠ none) ∨ (i = 2 ∧ s.line.state = .arbitrating)

end Sys2Proof.Obl

/-- An opportunity at a listening controller in IDLE begins a frame, or joins one, with the queue's offer; otherwise another's start
edge is received (R21, R43). That a controller which reads on meets an opportunity as one in IDLE is the model's choice (log 7). -/
def Obligations.OpportunityOffersLowest : Prop :=
  ∀ s : State,
    (s.line.state = .idle → s.line.listening = true →
      (∀ (c : Carrier) (rank : Nat), SlotsWellKept s.queue → IsOffer s.queue c rank →
        Gives (.idleGap .noEdge) s { s with line := { s.line with state := .arbitrating, offer := some c, sentRank := rank } }
        ∧ Gives (.idleGap .withGap) s
          { s with line := { s.line with state := .arbitrating, offer := some c, sentRank := rank } })
      ∧ (s.queue.entries = [] → s.queue.stop = none → s.queue.census = none →
          Gives (.idleGap .noEdge) s s ∧ Gives (.idleGap .withGap) s { s with line := { s.line with state := .receiving } })
      ∧ Gives (.idleGap .beforeGap) s { s with line := { s.line with state := .receiving } })
    ∧ ∀ edge : StartEdge,
      ((s.line.state ≠ .idle → ¬ (s.line.state = .receiving ∧ s.line.passive = true) → Gives (.idleGap edge) s s)
        ∧ (s.line.state = .idle → s.line.listening = false → Gives (.idleGap edge) s s)
        ∧ (s.line.state = .receiving → s.line.passive = true →
          exec (.idleGap edge) s = exec (.idleGap edge) { s with line := idled s.line }))

/-- The line's own passages (R20, R28, R36, R37): the first gap, the end of the hold phase, STUCK and its end. That a hold limit passed
during a frame is remembered to its end (log 20), and that a note stays held from HOLDING into STUCK (log 8), is the model's reading. -/
def Sys2Proof.Obl.LineStatePassages : Prop :=
  ∀ s : State,
    (s.line.state = .idle → Gives .firstIdleGap s { s with line := { s.line with listening := true } })
    ∧ (s.line.state = .holding → s.line.heldNotes = [] → Gives .holdEnd s { s with line := { s.line with state := .idle } })
    ∧ (s.line.state = .holding → s.line.heldNotes ≠ [] → Gives .holdEnd s s)
    ∧ (s.line.state = .idle ∨ s.line.state = .holding →
        Gives .dataStuck s { s with line := { s.line with state := .stuck, listening := false, holdStuck := false } }
        ∧ Gives .holdStuck s { s with line := { s.line with state := .stuck, listening := false, holdStuck := false } })
    ∧ (s.line.state ∈ [LineState.arbitrating, .sending, .receiving, .answering] →
        Gives .dataStuck s s ∧ Gives .holdStuck s { s with line := { s.line with holdStuck := true } })
    ∧ (s.line.state = .stuck → Gives .stuckExit s { s with line := { s.line with state := .idle, listening := false } })

/-- The win freezes what is offered, read at that moment (R45, R47); a removed offer is abandoned (R23). -/
def Obligations.WinFreezesOffer : Prop :=
  ∀ (t : Terms) (s : State), s.line.state = .arbitrating → s.terms = some t → SlotsWellKept s.queue →
    (∀ a, s.line.offer = some .stop → s.queue.stop = some a →
      Gives .arbitrationWon s { s with
        queue := { s.queue with stop := some { a with onLine := true } }
        line := { s.line with state := .sending, ownFrame := some (.stop a.target) } })
    ∧ (∀ a, s.line.offer = some .census → s.queue.census = some a →
      Gives .arbitrationWon s { s with
        queue := { s.queue with census := some { a with onLine := true } }
        line := { s.line with
          state := .sending
          ownFrame := some (.census ⟨a.mode, t, if a.mode = .timed then digest s.pool else 0⟩) } })
    ∧ (∀ e ∈ s.queue.entries, s.line.offer = some (.entry e.owner) →
      Gives .arbitrationWon s { s with
        queue := { s.queue with entries := s.queue.entries.map fun d => if d.owner = e.owner then { d with onLine := true } else d }
        line := { s.line with state := .sending, ownFrame := some (bodyOf t s.pool e.content) } })
    ∧ (s.line.offer = none →
      Gives .arbitrationWon s { s with line := { s.line with state := .receiving, passive := true } })

/-- A failed attempt of an entry or a line action: the count rises, the content is mutable again, and a count of 7 plus one isolates
with reason LINE (R30, R31, R46). Spoiled, truncated by a readback fault, or read malformed after a collision. -/
def Obligations.FailedAttemptCounts : Prop :=
  ∀ (i : Fin 3) (s : State), failsIn s i → s.participating = true → QueueKept s →
    (∀ e ∈ s.queue.entries, s.line.offer = some (.entry e.owner) →
      (e.attempts < 7 → (e.owner = .shed → s.queue.deferredRaise = false) →
        (∀ c : ChanNo, e.owner = .channel c → (s.channel c).followUp = false) →
        Gives (failure s i).1 s { s with line := (failure s i).2, queue := failedOnce s.queue e.owner })
      ∧ (e.attempts = 7 → ∃ t, exec (failure s i).1 s = .next t ∧ IsolatedFrom .line s t))
    ∧ (∀ a, s.line.offer = some .stop → s.queue.stop = some a →
      (a.attempts < 7 →
        Gives (failure s i).1 s { s with
          line := (failure s i).2
          queue := { s.queue with
            stop := some ⟨if s.queue.stopOwed then none else a.target, a.attempts + 1, false⟩, stopOwed := false } })
      ∧ (a.attempts = 7 → ∃ t, exec (failure s i).1 s = .next t ∧ IsolatedFrom .line s t))
    ∧ ∀ a, s.line.offer = some .census → s.queue.census = some a →
      (a.attempts < 7 →
        Gives (failure s i).1 s { s with
          line := (failure s i).2, queue := { s.queue with census := some ⟨a.mode, a.attempts + 1, false⟩ } })
      ∧ (a.attempts = 7 → ∃ t, exec (failure s i).1 s = .next t ∧ IsolatedFrom .line s t)

/-- What a spoil settles (R114, R53): a follow-up's CLAIM goes and the channel is OFF, its TRIM becomes a FULL of all it counts; a
deferred raise is taken against the SHED that is unsent again. That a readback fault settles them as a spoil does is the model's reading
(log 7). -/
def Obligations.SpoilSettlesWhatIsOwed : Prop :=
  ∀ (i : Fin 3) (s : State), failsIn s i → s.participating = true → QueueKept s →
    (∀ (c : ChanNo), ∀ e ∈ s.queue.entries, e.owner = .channel c → e.attempts < 7 → s.line.offer = some (.entry (.channel c)) →
      (s.channel c).followUp = true →
      (s.pendingFrame c = .claim →
        Gives (failure s i).1 s { s with
          line := (failure s i).2, queue := emptied s.queue (.channel c)
          chan := putChannel s.chan c { s.channel c with state := .off, followUp := false } })
      ∧ (s.pendingFrame c = .trim →
        Gives (failure s i).1 s { s with
          line := (failure s i).2
          queue := rewritten (failedOnce s.queue (.channel c)) (.channel c) (.release c (s.cfg c).cls (s.channel c).counted .full)
          chan := putChannel s.chan c { s.channel c with followUp := false } }))
    ∧ ∀ e ∈ s.queue.entries, e.owner = .shed → e.attempts < 7 → s.line.offer = some (.entry .shed) → s.queue.deferredRaise = true →
      (s.pool.level = 3 ∨ (∃ l : ShedLevel, e.content = .shed .set l ∧ s.pool.level < l) →
        Gives (failure s i).1 s { s with
          line := (failure s i).2, queue := { failedOnce s.queue .shed with deferredRaise := false } })
      ∧ (s.pool.level < 3 → (∀ l : ShedLevel, e.content = .shed .set l → l ≤ s.pool.level) →
        Gives (failure s i).1 s { s with
          line := (failure s i).2
          queue := { rewritten (failedOnce s.queue .shed) .shed (.shed .raise s.pool.level) with deferredRaise := false } })

/-- A spoil or an abandon seen by a receiver counts nothing: the line is IDLE again (R23, R26), after spoil slot two of a census that
another station sent as well (R35). A spoil at a controller still ARBITRATING
is taken as one of the frame it lost to (the model's reading, log 3). -/
def Sys2Proof.Obl.ReceiverCountsNoSpoil : Prop :=
  ∀ s : State,
    (s.line.state = .receiving ∨ s.line.state = .arbitrating ∨ (s.line.state = .answering ∧ s.line.ownFrame = none)) →
    Gives .frameSpoiled s { s with line := idled s.line }

namespace Sys2Proof.Obl

/-- The nine bits of an arbitration field (R22): the kind rank in four, the station number in five, most significant bit first. -/
def fieldOf (x : Nat × StationNo) : List Bool :=
  ((List.range 4).map fun i => x.1.testBit (3 - i)) ++ (List.range 5).map fun i => x.2.val.testBit (4 - i)

/-- One (rank, number) pair is lower than another: by rank first, between equal ranks by number (R22). -/
def lowerPair (x y : Nat × StationNo) : Prop := x.1 < y.1 ∨ (x.1 = y.1 ∧ x.2 < y.2)

end Sys2Proof.Obl

/-- Arbitration (R18, R22, R46): on a wire that is the AND of what the arbitrating stations drive, the station whose (rank, number) pair is
lowest reads its whole field back and has won, as has one with an equal pair; every other reads dominant where it sent recessive, stops
driving and is RECEIVING, and what it offered stays unsent with its count. That DUPLICATE_COLLISION, the row of a dominant bit read where
recessive was sent, carries the loss is the model's choice (log 3). -/
def Sys2Proof.Obl.LowestPairWins : Prop :=
  ∀ (others : List (Nat × StationNo)) (s : State), s.line.sentRank ≤ 8 → (∀ o ∈ others, o.1 ≤ 8) →
    let own : Nat × StationNo := (s.line.sentRank, s.number)
    let read := contend 9 ((own :: others).map fieldOf)
    ((∀ o ∈ others, ¬ lowerPair o own) → s.fieldCommand read = .arbitrationWon)
    ∧ ((∃ o ∈ others, lowerPair o own) → s.fieldCommand read = .duplicateCollision .differs)
    ∧ (s.line.state = .arbitrating →
        Gives (.duplicateCollision .differs) s { s with line := { s.line with state := .receiving, offer := none } })

/-- A collision of twins after the win (R24, R32). Where `f` and the twin's `g` differ first in a bit that `f` sends recessive, SHD carries
`g` unbroken: the sender of `g` reads back what it sends, the sender of `f` has the collision, drives SHD in no bit time from there on
and, still SENDING (log 3), reads the frame to its end, which tells it that a twin sent it where `g` is in range. -/
def Sys2Proof.Obl.TwinFrameCarriedUnbroken : Prop :=
  ∀ (f g : Frame) (common restF restG : List Bool) (s : State), frameRank f = frameRank g →
    frameBits s.number f = common ++ true :: restF → frameBits s.number g = common ++ false :: restG →
    let read := contend (frameBits s.number g).length [frameBits s.number f, frameBits s.number g]
    read = frameBits s.number g
    ∧ s.frameCommand f (read.drop 9) = some (.duplicateCollision .differs)
    ∧ s.frameCommand f ((read.take common.length).drop 9) = none
    ∧ s.frameCommand g (read.drop 9) = none
    ∧ (frameInRange g = true → collisionCommand read = .duplicateCollision (.ends true))
    ∧ (s.line.state = .sending → ∃ t, Gives (.duplicateCollision .differs) s t
        ∧ t = { s with line := { s.line with collided := true } } ∧ ∀ w : BitTime, t.dataOut w = true)

/-- What is read back decides arbitration (R18, R22, R46) and, after the win, a collision (R24, R32). That DUPLICATE_COLLISION carries the
loss, and that a sender which has collided stays SENDING, is the model's choice (log 3). -/
def Obligations.LowestPairWinsArbitration : Prop := Obl.LowestPairWins ∧ Obl.TwinFrameCarriedUnbroken

/-- Isolation, one event (R102, R103, R128): a twin's well-formed frame isolates DUPLICATE (R32), the silence timer's expiry
isolates SILENCE (R101). -/
def Obligations.IsolationClearsStation : Prop :=
  ∀ s : State,
    (s.line.state = .sending → s.line.collided = true → s.participating = true →
      ∃ t, exec (.duplicateCollision (.ends true)) s = .next t ∧ IsolatedFrom .duplicate s t)
    ∧ ∀ p : Nat, s.member.station = .joined → s.member.silenceTimer = some p →
      ∃ t, exec .silenceTimerExpiry s = .next t ∧ IsolatedFrom .silence s t

/-- The four answer bits (R34, R93), written at the census's answer field by its receivers and by its initiator. Who receives it is `hears`,
with the model's passages of log 3. -/
def Obligations.AnswerBitsDecided : Prop :=
  ∀ (own : Bool) (n : StationNo) (h : CensusHeader) (s : State), frameInRange (.census h) = true →
    (own = true → sends s n (.census h)) → (own = false → hears s n (.census h)) →
    ∃ a : Answer,
      Gives (.censusAnswerField n h) s { s with
        line := { s.line with state := .answering, answer := some a, offer := if own then s.line.offer else none } }
      ∧ a.sender = n ∧ a.header = h
      ∧ (a.joined = true ↔ s.member.station = .joined)
      ∧ (a.syncing = true ↔ s.member.station = .syncing ∧ s.terms = some h.terms)
      ∧ (a.attention = true ↔
          (s.member.station = .joining ∨ s.member.station = .syncing ∨ s.member.station = .joined)
            ∧ ((∃ c : ChanNo, (s.channel c).fault ≠ none) ∨ s.monitor.temperature = .shutdown))
      ∧ (a.dissent = true ↔ s.member.station = .joined ∧ h.mode = .timed ∧ digest s.pool ≠ h.digest)

/-! ### The pool engine -/

namespace Sys2Proof.Obl

/-- The change that a CLAIM makes once no entry of its channel waits, its tests in order (R59, R60, R61, R62). -/
def claimChange (limit : Nat) (p : Pool) (n : StationNo) (c : ChanNo) (k : PriClass) (u : Nat) (g : GroupNo) (w : Bool) : Pool :=
  if p.rows[n].present = false then p
  else if k < p.level then p
  else if p.waitList = [] ∧ u ≤ limit - poolSum p then addUnits p n k u
  else if w = true ∧ p.waitList.length < 24 then { p with waitList := p.waitList ++ [⟨n, c, k, u, g⟩] }
  else p

/-- What the pool tells the channel of its CLAIM (R59). -/
inductive Told where
  | granted | waiting | refused (r : Reason)

def told (limit : Nat) (p : Pool) (n : StationNo) (k : PriClass) (u : Nat) (w : Bool) : Told :=
  if p.rows[n].present = false then .refused .absent
  else if k < p.level then .refused .shed
  else if p.waitList = [] ∧ u ≤ limit - poolSum p then .granted
  else if w = true then (if p.waitList.length < 24 then .waiting else .refused .listFull)
  else .refused .noRoom

/-- An entry of a station's channel waits. -/
def isStale (p : Pool) (n : StationNo) (c : ChanNo) : Bool :=
  p.waitList.any fun e => decide (e.station = n) && decide (e.channel = c)

/-- The list without the entry of a station's channel (R10). -/
def withoutEntry (p : Pool) (n : StationNo) (c : ChanNo) : Pool :=
  { p with waitList := p.waitList.filter fun e => !(decide (e.station = n) && decide (e.channel = c)) }

/-- The pool change of a CLAIM, and the entries that service grants in it (R59 to R63, R68, R69): a stale entry goes first, and only then
does service run. -/
def claimServed (limit : Nat) (p : Pool) (n : StationNo) (c : ChanNo) (k : PriClass) (u : Nat) (g : GroupNo) (w : Bool) :
    Pool × List WaitEntry :=
  if isStale p n c then serve limit (claimChange limit (withoutEntry p n c) n c k u g w) else (claimChange limit p n c k u g w, [])

/-- A grant to a channel (R115), taken by a station that drives its start queue (R121, R122). -/
def grantTo (s : State) (c : ChanNo) (u : Nat) (g : GroupNo) : State :=
  if g ≠ 0 then { s with chan := putChannel s.chan c { s.channel c with state := .armed, counted := u, group := g } }
  else if s.chan.spacing = none ∧ s.chan.latch = false ∧ s.chan.startQueue = [] then
    { flagged s [startedFlag c] with
      chan :=
        { putChannel s.chan c
            { s.channel c with
              state := .inrush, counted := u, group := g, inrushTimer := some (10 * (s.cfg c).inrushTime) } with
          spacing := if 0 < s.settings.startSpacing then some s.settings.startSpacing else none } }
  else
    { s with
      chan :=
        { putChannel s.chan c { s.channel c with state := .startWait, counted := u, group := g } with
          startQueue := s.chan.startQueue ++ [c] } }

/-- A grant from the wait list at one channel (R70, R115): a WAITING channel takes it; a RELEASING one whose WITHDRAW is unsent gives it
back by a FULL in its place; any other is left as it was. -/
def grantFromList (s : State) (c : ChanNo) (u : Nat) (g : GroupNo) : State :=
  if (s.channel c).state = .waiting then grantTo s c u g
  else if (s.channel c).state = .releasing ∧ s.pendingFrame c = .withdraw ∧ s.queue.frozen (.channel c) = false then
    { s with
      queue := rewritten s.queue (.channel c) (.release c (s.cfg c).cls u .full)
      chan := putChannel s.chan c { s.channel c with counted := u } }
  else s

/-- The grants of one service told to this station's channels, head first (R70); other stations' entries tell it nothing. -/
def toldGrants (s : State) : List WaitEntry → State
  | [] => s
  | e :: rest => toldGrants (if e.station = s.number then grantFromList s e.channel e.units e.group else s) rest

end Sys2Proof.Obl

/-- The subtraction clamp (R12), and the rise of a grant (R60): one class total of one row moves, and the pool sum with it. -/
def Obligations.ClassTotalsMoveExactly : Prop :=
  ∀ (p : Pool) (n m : StationNo) (k j : PriClass) (u : Nat),
    (subUnits p n k u).rows[n].totals[k] = p.rows[n].totals[k] - u
    ∧ (m ≠ n ∨ j ≠ k → (subUnits p n k u).rows[m].totals[j] = p.rows[m].totals[j])
    ∧ (subUnits p n k u).rows[m].present = p.rows[m].present ∧ (subUnits p n k u).rows[m].misses = p.rows[m].misses
    ∧ subUnits p n k 0 = p
    ∧ (subUnits p n k u).level = p.level ∧ (subUnits p n k u).waitList = p.waitList
    ∧ poolSum (subUnits p n k u) + min u p.rows[n].totals[k] = poolSum p
    ∧ (addUnits p n k u).rows[n].totals[k] = p.rows[n].totals[k] + u
    ∧ (m ≠ n ∨ j ≠ k → (addUnits p n k u).rows[m].totals[j] = p.rows[m].totals[j])
    ∧ (addUnits p n k u).rows[m].present = p.rows[m].present ∧ (addUnits p n k u).rows[m].misses = p.rows[m].misses
    ∧ (addUnits p n k u).level = p.level ∧ (addUnits p n k u).waitList = p.waitList
    ∧ poolSum (addUnits p n k u) = poolSum p + u

/-- Wait-list service (R68): heads are granted in order while each fits what is then free, and service stops at the first that does
not; class totals rise by what is granted, and nothing else changes. -/
def Obligations.ServiceGrantsHeadsThatFit : Prop :=
  ∀ (limit : Nat) (p : Pool),
    (serve limit p).2 ++ (serve limit p).1.waitList = p.waitList
    ∧ (∀ before e after, (serve limit p).2 = before ++ e :: after →
        e.units ≤ limit - (poolSum p + (before.map WaitEntry.units).sum))
    ∧ (∀ e rest, (serve limit p).1.waitList = e :: rest → limit - poolSum (serve limit p).1 < e.units)
    ∧ (∀ (n : StationNo) (k : PriClass),
        (serve limit p).1.rows[n].totals[k]
          = p.rows[n].totals[k]
            + (((serve limit p).2.filter fun e => decide (e.station = n) && decide (e.cls = k)).map WaitEntry.units).sum)
    ∧ (∀ n : StationNo, (serve limit p).1.rows[n].present = p.rows[n].present
        ∧ (serve limit p).1.rows[n].misses = p.rows[n].misses)
    ∧ (serve limit p).1.level = p.level

/-- R57, R16: a participating station that is not JOINED takes part in these six kinds of frame and ignores them. -/
def Obligations.FramesIgnoredUnlessJoined : Prop :=
  ∀ (c : Instr) (n : StationNo) (f : Frame) (s : State), frameOf c = some (n, f) → frameInRange f = true →
    frameRank f ∉ [1, 4, 5] → s.member.station ≠ .joined → hears s n f → Gives c s { s with line := held s.line }

/-! ### Accepted frames at a member -/

namespace Sys2Proof.Obl

/-- A JOINED station's own frame is accepted: it sends it, and the entry that carried it is on the line (R46). -/
def ownFrame (s : State) (n : StationNo) (f : Frame) (o : Owner) : Prop :=
  sends s n f ∧ ∃ e ∈ s.queue.entries, e.owner = o ∧ e.onLine = true

/-- A JOINED station applies a frame, its own or another's, that an entry of slot `o` carries at its sender. Which of the two it is, and
the passages of `hears`, are the model's reading (logs 3 and 10). -/
def applies (own : Bool) (s : State) (n : StationNo) (f : Frame) (o : Owner) : Prop :=
  s.member.station = .joined ∧ frameInRange f = true ∧ QueueKept s ∧ if own then ownFrame s n f o else hears s n f

/-- The queue after the application: the accepted own entry is gone (R46). -/
def after (own : Bool) (s : State) (o : Owner) : TxQueue := if own then emptied s.queue o else s.queue

/-- The queue after a SHED that leaves the level `l` (R46, R53): the own entry is gone, and a raise deferred behind it is placed, with
`l` as prior, where `l` is below 3. -/
def afterShed (own : Bool) (s : State) (l : ShedLevel) : TxQueue :=
  if own then
    let q : TxQueue := { emptied s.queue .shed with deferredRaise := false }
    if s.queue.deferredRaise = true ∧ l < 3 then placed q .shed (.shed .raise l) else q
  else s.queue

/-- The queue after a STOP (R46, R50, R51): the sender's action is gone, and one owed takes its place; another's covered action is
withdrawn. -/
def afterStop (own : Bool) (q : TxQueue) (target : Option StationNo) : TxQueue :=
  if own then { q with stop := if q.stopOwed then some ⟨none, 0, false⟩ else none, stopOwed := false }
  else if target = none ∨ q.stop.map StopAction.target = some target then { q with stop := none }
  else q

/-- A queue without the entries of the channels that `hit` picks out; the others keep their order (R44, R118, R119). -/
def withoutChannels (q : TxQueue) (hit : ChanNo → Bool) : TxQueue :=
  { q with entries := q.entries.filter fun e => match e.owner with | .channel c => !hit c | _ => true }

/-- The table that R118 and R119 share: what a shed or a stop makes of one channel. -/
def swept (r : Reason) (x : Channel) : Channel :=
  match x.state with
  | .disabled | .off => x
  | .faulted => { x with counted := 0 }
  | .probing => { x with state := .off, startReq := none, lastReason := some r }
  | .releasing => { x with state := .off, counted := 0 }
  | .claiming | .waiting | .armed | .startWait | .inrush | .run =>
    { x with state := .off, counted := 0, inrushTimer := none, lastReason := some r }

/-- A shed or a stop at the channels that `hit` picks out (R118, R119): their records, both queues, and the probe's counters, 0 where the
head has left (R135). -/
def Sweeps (r : Reason) (hit : ChanNo → Bool) (s t : State) : Prop :=
  (∀ c : ChanNo, t.channel c = if hit c then swept r (s.channel c) else s.channel c)
    ∧ t.chan.startQueue = s.chan.startQueue.filter (fun c => !hit c)
    ∧ t.probe =
      { queue := s.probe.queue.filter fun c => !hit c
        reference := if s.probe.queue.head?.any hit then 0 else s.probe.reference
        load := if s.probe.queue.head?.any hit then 0 else s.probe.load }

/-- The channels' part of a JOINED station fits the spec (R110, R121, R131). -/
def ChannelsFit (s : State) : Prop :=
  (∀ c : ChanNo, channelFits s c) ∧ StartQueueExact s ∧ ProbeQueueExact s

/-- What the station's own RELEASE of `u` units (0 for WITHDRAW) makes of its channel and slot, by the tables of R114 and R117; the
accepted entry has left the slot before (R46). -/
def releasedBy (s : State) (c : ChanNo) (u : Nat) : State :=
  let x := s.channel c
  let left := x.counted - u
  let rest : TxQueue :=
    if left = 0 then emptied s.queue (.channel c)
    else placed (emptied s.queue (.channel c)) (.channel c) (.release c (s.cfg c).cls left .full)
  match x.state with
  | .releasing =>
    { s with
      queue := rest
      chan := putChannel s.chan c { x with counted := left, followUp := false, state := if left = 0 then .off else .releasing } }
  | .faulted => { s with queue := rest, chan := putChannel s.chan c { x with counted := left, followUp := false } }
  | _ => { s with queue := emptied s.queue (.channel c), chan := putChannel s.chan c { x with counted := left } }

/-- The commands of an accepted RELEASE, by its form. -/
def releaseCommand (n : StationNo) (c : ChanNo) (k : PriClass) (u : Nat) : ReleaseForm → Instr
  | .trim => .release n c k u false
  | .full => .release n c k u true
  | .withdraw => .withdraw n c k u

/-- The pool change of a RELEASE, and the entries that service grants in it (R65, R66, R68). -/
def releaseServed (limit : Nat) (p : Pool) (n : StationNo) (c : ChanNo) (k : PriClass) (u : Nat) : ReleaseForm → Pool × List WaitEntry
  | .trim | .full => serve limit (subUnits p n k u)
  | .withdraw => serve limit (withoutEntry p n c)

end Sys2Proof.Obl

/-- A CLAIM of another station (R59 to R63): the table's decision; a stale entry goes first, and then service runs, whose grants this
station's channels are told (R70). -/
def Obligations.ClaimAppliedByTable : Prop :=
  ∀ (n : StationNo) (c : ChanNo) (k : PriClass) (u : Nat) (g : GroupNo) (w : Bool) (s : State),
    applies false s n (.claim c k u g w) (.channel c) → n ≠ s.number → HeadStarted s →
    let r := claimServed s.limit s.pool n c k u g w
    Gives (.claim n c k u g w) s { toldGrants s r.2 with pool := r.1, line := held s.line }

/-- The station's own CLAIM (R58, R63, R115, R116, R121): granted, waiting or refused, at a CLAIMING channel; the grants of the service
that follows a stale entry's removal are told after it (R70). -/
def Sys2Proof.Obl.OwnClaimTold : Prop :=
  ∀ (c : ChanNo) (k : PriClass) (u : Nat) (g : GroupNo) (w : Bool) (s : State),
    applies true s s.number (.claim c k u g w) (.channel c) → (s.channel c).state = .claiming → HeadStarted s →
    let r := claimServed s.limit s.pool s.number c k u g w
    let s1 : State := { s with queue := emptied s.queue (.channel c) }
    match told s.limit (withoutEntry s.pool s.number c) s.number k u w with
    | .granted =>
      Gives (.claim s.number c k u g w) s { toldGrants (grantTo s1 c u g) r.2 with pool := r.1, line := held s.line }
    | .waiting =>
      Gives (.claim s.number c k u g w) s
        { toldGrants { s1 with chan := putChannel s.chan c { s.channel c with state := .waiting } } r.2 with
          pool := r.1, line := held s.line }
    | .refused why =>
      Gives (.claim s.number c k u g w) s
        { toldGrants
            { flagged s1 [stoppedFlag c] with
              chan := putChannel s.chan c { s.channel c with state := .off, lastReason := some why } } r.2 with
          pool := r.1, line := held s.line }

/-- The station's own CLAIM at a RELEASING channel that owes a follow-up (R114): a FULL of what was granted, a WITHDRAW, or OFF; then
the grants of a service, as in OwnClaimTold. -/
def Sys2Proof.Obl.OwnClaimSettlesFollowUp : Prop :=
  ∀ (c : ChanNo) (k : PriClass) (u : Nat) (g : GroupNo) (w : Bool) (s : State),
    applies true s s.number (.claim c k u g w) (.channel c) → (s.channel c).state = .releasing → (s.channel c).followUp = true →
    HeadStarted s →
    let r := claimServed s.limit s.pool s.number c k u g w
    let q := emptied s.queue (.channel c)
    match told s.limit (withoutEntry s.pool s.number c) s.number k u w with
    | .granted =>
      Gives (.claim s.number c k u g w) s
        { toldGrants
            { s with
              queue := placed q (.channel c) (.release c (s.cfg c).cls u .full)
              chan := putChannel s.chan c { s.channel c with counted := u, followUp := false } } r.2 with
          pool := r.1, line := held s.line }
    | .waiting =>
      Gives (.claim s.number c k u g w) s
        { toldGrants
            { s with
              queue := placed q (.channel c) (.release c (s.cfg c).cls 0 .withdraw)
              chan := putChannel s.chan c { s.channel c with followUp := false } } r.2 with
          pool := r.1, line := held s.line }
    | .refused why =>
      Gives (.claim s.number c k u g w) s
        { toldGrants
            { s with
              queue := q
              chan := putChannel s.chan c { s.channel c with state := .off, lastReason := some why, followUp := false } } r.2 with
          pool := r.1, line := held s.line }

/-- A RELEASE of another station, in each form (R65, R66, R69): the clamp or the removal, then service, whose grants this station's
channels are told (R70). -/
def Obligations.ReleaseAppliedThenService : Prop :=
  ∀ (n : StationNo) (c : ChanNo) (k : PriClass) (u : Nat) (f : ReleaseForm) (s : State), n ≠ s.number →
    applies false s n (.release c k u f) (.channel c) → HeadStarted s →
    let r := releaseServed s.limit s.pool n c k u f
    Gives (releaseCommand n c k u f) s { toldGrants s r.2 with pool := r.1, line := held s.line }

/-- The station's own RELEASE, in each form (R67, R114, R117), told apart by the channel's state; the grants of its service come after
(R67, R70). -/
def Obligations.OwnReleaseLowersChannel : Prop :=
  ∀ (c : ChanNo) (k : PriClass) (u : Nat) (f : ReleaseForm) (s : State),
    applies true s s.number (.release c k u f) (.channel c) → HeadStarted s →
    let r := releaseServed s.limit s.pool s.number c k u f
    Gives (releaseCommand s.number c k u f) s
      { toldGrants (releasedBy s c (if f = .withdraw then 0 else u)) r.2 with pool := r.1, line := held s.line }

/-- Several grants of one service to this station's channels (R70, R115, R121), at another's RELEASE in any form: a WAITING channel is
ARMED in its entry's group, or starts, or waits in the start queue, in service order; a RELEASING one gives its units back by a FULL; the
others are left as they were. -/
def Obligations.WaitListGrantReachesChannel : Prop :=
  ∀ (n : StationNo) (c : ChanNo) (k : PriClass) (u : Nat) (f : ReleaseForm) (s : State), n ≠ s.number →
    applies false s n (.release c k u f) (.channel c) → HeadStarted s →
    let r := releaseServed s.limit s.pool n c k u f
    let own := r.2.filter fun e => decide (e.station = s.number)
    let starts := own.filter fun e => decide ((s.channel e.channel).state = .waiting) && decide (e.group = 0)
    (own.map WaitEntry.channel).Nodup →
    ∃ t, exec (releaseCommand n c k u f) s = .next t ∧ t.pool = r.1
      ∧ (∀ d : ChanNo, (∀ e ∈ own, e.channel ≠ d) →
          t.channel d = s.channel d ∧ t.queue.entryOf (.channel d) = s.queue.entryOf (.channel d))
      ∧ (∀ e ∈ own, (s.channel e.channel).state = .waiting →
          (t.channel e.channel).counted = e.units ∧ (t.channel e.channel).group = e.group
            ∧ (e.group ≠ 0 → (t.channel e.channel).state = .armed))
      ∧ (∀ e ∈ own, (s.channel e.channel).state = .releasing → s.pendingFrame e.channel = .withdraw →
          t.channel e.channel = { s.channel e.channel with counted := e.units }
            ∧ (t.queue.entryOf (.channel e.channel)).map Entry.content
              = some (.release e.channel (s.cfg e.channel).cls e.units .full))
      ∧ (s.chan.spacing ≠ none ∨ s.chan.latch = true →
          t.chan.startQueue = s.chan.startQueue ++ starts.map WaitEntry.channel ∧ t.chan.spacing = s.chan.spacing
            ∧ ∀ e ∈ starts, (t.channel e.channel).state = .startWait)
      ∧ (s.chan.spacing = none → s.chan.latch = false → s.settings.startSpacing = 0 →
          t.chan.startQueue = [] ∧ t.chan.spacing = none
            ∧ ∀ e ∈ starts, (t.channel e.channel).state = .inrush ∧ t.port.flags[startedFlag e.channel] = true)
      ∧ (∀ first later, s.chan.spacing = none → s.chan.latch = false → 0 < s.settings.startSpacing → starts = first :: later →
          t.chan.startQueue = later.map WaitEntry.channel ∧ t.chan.spacing = some s.settings.startSpacing
            ∧ (t.channel first.channel).state = .inrush ∧ t.port.flags[startedFlag first.channel] = true
            ∧ ∀ e ∈ later, (t.channel e.channel).state = .startWait)

/-- GO (R71, R120, R157): the channels ARMED in the group start at once unless the latch is set, the spacing timer restarts, the clock
is captured, GO is raised. That a channel is ARMED in the group of the grant it took, and that the timer restarts also where no channel
here was, is the model's reading of R120 (log 9). -/
def Obligations.GoStartsArmedChannels : Prop :=
  ∀ (own : Bool) (n : StationNo) (g : GroupNo) (s : State), applies own s n (.go g) .go →
    let starts (c : ChanNo) : Bool :=
      decide ((s.channel c).state = .armed) && decide ((s.channel c).group = g) && !s.chan.latch
    ∃ t, exec (.goApplied n g) s = .next t
      ∧ t = { s with
          line := held s.line, queue := after own s .go, chan := t.chan
          monitor := { s.monitor with goTime := s.monitor.clock }, port := { s.port with flags := t.port.flags } }
      ∧ t.chan.startQueue = s.chan.startQueue ∧ t.chan.latch = s.chan.latch
      ∧ t.chan.spacing
          = (if s.chan.latch = false ∧ 0 < s.settings.startSpacing then some s.settings.startSpacing else s.chan.spacing)
      ∧ (∀ c : ChanNo, t.channel c =
          if starts c then { s.channel c with state := .inrush, inrushTimer := some (10 * (s.cfg c).inrushTime) }
          else s.channel c)
      ∧ Raises s t (5 :: (allChannels.filter starts).map startedFlag)

/-- SHED SET, and SHED RAISE whose prior is the level (R72, R74, R75, R118): a rise zeroes the classes, removes the entries and sweeps
the channels below the new level, and runs no service. -/
def Obligations.ShedRaisesLevel : Prop :=
  ∀ (own raise : Bool) (n : StationNo) (l : ShedLevel) (s : State),
    let c : Instr := if raise then .shedRaise n s.pool.level else .shedSet n l
    let f : Frame := if raise then .shed .raise s.pool.level else .shed .set l
    let hit (d : ChanNo) : Bool := decide ((s.cfg d).cls < l)
    applies own s n f .shed → ChannelsFit s → s.pool.level < l → (raise = true → l.val = s.pool.level.val + 1) →
    ∃ t, exec c s = .next t
      ∧ t = { s with
          pool := t.pool, line := held s.line, queue := withoutChannels (afterShed own s l) hit
          chan := { t.chan with spacing := s.chan.spacing, latch := s.chan.latch }, probe := t.probe
          port := { s.port with flags := t.port.flags } }
      ∧ t.pool.level = l ∧ t.pool.waitList = s.pool.waitList.filter (fun e => decide (l ≤ e.cls))
      ∧ (∀ (m : StationNo) (k : PriClass), t.pool.rows[m].totals[k] = if k < l then 0 else s.pool.rows[m].totals[k])
      ∧ (∀ m : StationNo, t.pool.rows[m].present = s.pool.rows[m].present ∧ t.pool.rows[m].misses = s.pool.rows[m].misses)
      ∧ Sweeps .shed hit s t
      ∧ Raises s t (4 :: stoppedOf fun d => hit d && (s.channel d).state.inService)

/-- SHED SET at or below the level lowers or keeps it and runs service, whose grants this station's channels are told (R70, R73, R75);
SHED RAISE with another prior has no effect (R74). A raise deferred behind an own SHED is taken with the level it leaves (R53). -/
def Sys2Proof.Obl.ShedKeepsOrLowersLevel : Prop :=
  ∀ (own : Bool) (n : StationNo) (l : ShedLevel) (s : State),
    (applies own s n (.shed .set l) .shed → l ≤ s.pool.level → HeadStarted s →
      let r := serve s.limit { s.pool with level := l }
      Gives (.shedSet n l) s
        { toldGrants { (if l = s.pool.level then s else flagged s [4]) with queue := afterShed own s l } r.2 with
          pool := r.1, line := held s.line })
    ∧ (applies own s n (.shed .raise l) .shed → l ≠ s.pool.level →
      Gives (.shedRaise n l) s { s with line := held s.line, queue := afterShed own s s.pool.level })

/-- The station's own SHED, SET or RAISE, with a raise deferred behind it (R53): once it is applied, whatever it does to the level, a
RAISE is placed as the newest entry, its prior the level the SHED left; at level 3 none is placed. -/
def Sys2Proof.Obl.DeferredRaiseFollowsOwnShed : Prop :=
  ∀ (form : ShedForm) (l : ShedLevel) (s : State), applies true s s.number (.shed form l) .shed → s.queue.deferredRaise = true →
    ChannelsFit s →
    ∃ t, exec (match form with | .set => .shedSet s.number l | .raise => .shedRaise s.number l) s = .next t
      ∧ t.pool.level.val
          = (match form with
            | .set => l.val
            | .raise => if s.pool.level = l then l.val + 1 else s.pool.level.val)
      ∧ t.queue.deferredRaise = false
      ∧ (t.pool.level < 3 → ∃ older, t.queue.entries = older ++ [⟨.shed, .shed .raise t.pool.level, 0, false⟩]
          ∧ ∀ e ∈ older, e.owner ≠ .shed)
      ∧ (t.pool.level = 3 → t.queue.entryOf .shed = none)

/-- STOP (R76, R77, R119, R124, R46, R50, R51): for ALL, or for one station's row; service runs. The channels of a stopped station are
swept, and a STOP for ALL clears the latch; another station's channels are told the grants (R70). The sender's action is removed and one
owed takes its place; another's covered action is withdrawn. -/
def Obligations.StopEmptiesRows : Prop :=
  ∀ (own : Bool) (n : StationNo) (target : Option StationNo) (s : State),
    let c : Instr := match target with | none => .stopAll n | some m => .stopStation n m
    s.member.station = .joined → QueueKept s → ChannelsFit s → HeadStarted s →
    (if own then sends s n (.stop target) ∧ s.queue.stop.any (fun a => a.onLine) = true else hears s n (.stop target)) →
    (∀ m, target = some m → m ≠ s.number →
      let r := serve s.limit { s.pool with
        rows := s.pool.rows.set m { s.pool.rows[m] with totals := #v[0, 0, 0, 0] }
        waitList := s.pool.waitList.filter fun e => decide (e.station ≠ m) }
      Gives c s { toldGrants { s with queue := afterStop own s.queue target } r.2 with pool := r.1, line := held s.line })
    ∧ (target = none ∨ target = some s.number →
      ∃ t, exec c s = .next t
        ∧ t = { s with
            pool := t.pool, line := held s.line, queue := withoutChannels (afterStop own s.queue target) fun _ => true
            chan := { t.chan with spacing := none, latch := s.chan.latch && decide (target ≠ none) }, probe := t.probe
            port := { s.port with flags := t.port.flags } }
        ∧ (target = none → t.pool.waitList = [] ∧ t.pool.level = s.pool.level ∧ ∀ m : StationNo,
            t.pool.rows[m] = { s.pool.rows[m] with totals := #v[0, 0, 0, 0] })
        ∧ (target ≠ none → t.pool
            = (serve s.limit { s.pool with
                rows := s.pool.rows.set s.number { s.pool.rows[s.number] with totals := #v[0, 0, 0, 0] }
                waitList := s.pool.waitList.filter fun e => decide (e.station ≠ s.number) }).1)
        ∧ Sweeps .stopped (fun _ => true) s t
        ∧ Raises s t (stoppedOf fun d => (s.channel d).state.inService))

/-- NOTE (R78, R28, R29): delivered at a named JOINED station that is not the sender, or held for room; elsewhere nothing.
Who the sender is goes by its number (the model's reading, log 10); that a note held since before STUCK stays held beside it is its
reading too (log 8). -/
def Obligations.NoteDeliveredOrHeld : Prop :=
  ∀ (own : Bool) (n : StationNo) (target : Option StationNo) (d : List Byte) (s : State), applies own s n (.note target d) .note →
    (n ≠ s.number → target = none ∨ target = some s.number →
      (s.port.notes.length < 4 →
        Gives (.note n target d) s { s with
          line := held s.line, queue := after own s .note
          port := { s.port with notes := s.port.notes ++ [⟨n, target, d⟩], flags := pend s.port.flags [6] } })
      ∧ (4 ≤ s.port.notes.length →
        Gives (.note n target d) s { s with
          line := { held s.line with heldNotes := s.line.heldNotes ++ [⟨n, target, d⟩] }, queue := after own s .note }))
    ∧ (n = s.number ∨ (target ≠ none ∧ target ≠ some s.number) →
        Gives (.note n target d) s { s with line := held s.line, queue := after own s .note })

/-! ### Membership -/

namespace Sys2Proof.Obl

/-- Entry to JOINED (R88, R92): the timers start, the sync timer stops, the count is 0. -/
def joinedFrom (s : State) : Member :=
  { s.member with
    station := .joined, syncCount := 0, syncTimer := none, censusTimer := some s.interval, silenceTimer := some (2 * s.interval) }

/-- A pending CENSUS action that is not on the line is withdrawn (R48). -/
def censusWithdrawn (q : TxQueue) : TxQueue :=
  { q with census := match q.census with | some ⟨m, a, true⟩ => some ⟨m, a, true⟩ | _ => none }

/-- The census is accepted: received (from RECEIVING or ANSWERING), or the station's own, with its action on the line (R35, log 3). -/
def takesCensus (own : Bool) (s : State) (n : StationNo) (h : CensusHeader) : Prop :=
  frameInRange (.census h) = true
    ∧ if own then
        n = s.number ∧ s.queue.census.any (fun a => a.onLine) = true
          ∧ (sends s n (.census h)
            ∨ ∃ a, s.line.state = .answering ∧ s.line.ownFrame ≠ none ∧ s.line.answer = some a ∧ a.sender = n ∧ a.header = h)
      else
        hears s n (.census h)
          ∨ ∃ a, s.line.state = .answering ∧ s.line.ownFrame = none ∧ s.line.answer = some a ∧ a.sender = n ∧ a.header = h

/-- The queue after an accepted census: the own action is gone, another's pending one withdrawn (R46, R48). -/
def afterCensus (own : Bool) (q : TxQueue) : TxQueue := if own then { q with census := none } else censusWithdrawn q

/-- d and J of R96. -/
def bitCount (x : BitVec 32) : Nat := ((List.finRange 32).filter fun i => x.getLsbD i.val).length

/-- A void census (R96). -/
def isVoid (h : CensusHeader) (m : Maps) : Prop :=
  h.mode = .timed ∧ 0 < bitCount m.dissent ∧ bitCount m.joined ≤ 2 * bitCount m.dissent

/-- A minority of dissenters to which this station belongs (R96). -/
def dissentsAlone (h : CensusHeader) (m : Maps) (n : StationNo) : Prop :=
  h.mode = .timed ∧ 2 * bitCount m.dissent < bitCount m.joined ∧ m.dissent.getLsbD n.val = true

/-- A row after a timed census (R98). -/
def countedRow (joined : BitVec 32) (n : StationNo) (r : Row) : Row :=
  if r.present = false then r
  else if joined.getLsbD n.val = true then { r with misses := 0 }
  else if r.misses < 3 then { r with misses := r.misses + 1 }
  else ⟨false, 0, #v[0, 0, 0, 0]⟩

/-- A row that a timed census drops (R98). -/
def dropsRow (joined : BitVec 32) (p : Pool) (n : StationNo) : Bool :=
  p.rows[n].present && !joined.getLsbD n.val && decide (3 ≤ p.rows[n].misses)

/-- The rows counted and dropped, with their entries (R98). -/
def countedPool (joined : BitVec 32) (p : Pool) : Pool :=
  { p with
    rows := Vector.ofFn fun n => countedRow joined n p.rows[n]
    waitList := p.waitList.filter fun e => !dropsRow joined p e.station }

end Sys2Proof.Obl

/-- JOIN (R84, R85, R86): the own JOIN takes a JOINING station to SYNCING; at a member, another's JOIN with equal terms makes its row
PRESENT and zero and runs service, whose grants this station's channels are told (R70), any other JOIN offers a SNAPSHOT,
and one with the own number isolates DUPLICATE. -/
def Obligations.JoinAppliedByState : Prop :=
  ∀ (n : StationNo) (t : Terms) (s : State), frameInRange (.join t) = true → QueueKept s →
    (s.member.station = .joining → ownFrame s n (.join t) .membership →
      Gives (.join n t) s { s with
        line := held s.line, queue := emptied s.queue .membership
        member := { s.member with station := .syncing, syncCount := 0, syncTimer := some s.interval } })
    ∧ (s.member.station = .joining ∨ s.member.station = .syncing → hears s n (.join t) →
        Gives (.join n t) s { s with line := held s.line })
    ∧ (s.member.station = .joined → hears s n (.join t) →
      let q : TxQueue := if s.queue.entryOf .membership = none then placed s.queue .membership .snapshot else s.queue
      (n = s.number → ∃ u, exec (.join n t) s = .next u ∧ IsolatedFrom .duplicate s u)
      ∧ (n ≠ s.number → s.terms ≠ some t → Gives (.join n t) s { s with line := held s.line, queue := q })
      ∧ (n ≠ s.number → s.terms = some t → HeadStarted s →
        let r := serve s.limit { s.pool with
          rows := s.pool.rows.set n ⟨true, 0, #v[0, 0, 0, 0]⟩
          waitList := s.pool.waitList.filter fun e => decide (e.station ≠ n) }
        Gives (.join n t) s { toldGrants { s with queue := q } r.2 with pool := r.1, line := held s.line }))

/-- SNAPSHOT (R87, R88, R89, R49): a SYNCING station isolates on differing terms, adopts a copy that shows it PRESENT and holding
nothing, and waits otherwise; a member withdraws its own pending SNAPSHOT. -/
def Obligations.SnapshotAppliedByState : Prop :=
  ∀ (n : StationNo) (t : Terms) (p : Pool) (s : State), frameInRange (.snapshot t p) = true → QueueKept s →
    let fresh : Prop :=
      p.rows[s.number].present = true ∧ (∀ k : PriClass, p.rows[s.number].totals[k] = 0)
        ∧ ∀ e ∈ p.waitList, e.station ≠ s.number
    (hears s n (.snapshot t p) →
      (s.member.station = .syncing → s.terms ≠ some t →
        ∃ u, exec (.snapshot n t p) s = .next u ∧ IsolatedFrom .mismatch s u)
      ∧ (s.member.station = .syncing → s.terms = some t → fresh →
        Gives (.snapshot n t p) s { flagged s [1] with
          pool := p, line := held s.line, member := joinedFrom s, queue := censusWithdrawn s.queue })
      ∧ (s.member.station = .syncing → s.terms = some t → ¬ fresh → Gives (.snapshot n t p) s { s with line := held s.line })
      ∧ (s.member.station = .joining → Gives (.snapshot n t p) s { s with line := held s.line })
      ∧ (s.member.station = .joined → s.queue.entryOf .membership = none ∨ (∃ e ∈ s.queue.entries, e.content = .snapshot) →
        Gives (.snapshot n t p) s { s with line := held s.line, queue := emptied s.queue .membership }))
    ∧ (s.member.station = .joined → ownFrame s n (.snapshot t p) .membership →
        Gives (.snapshot n t p) s { s with line := held s.line, queue := emptied s.queue .membership })

/-- A census at a member (R95 to R99): dissent, the void census, the own bit, in that order; then misses, drops and service in a TIMED
census, its grants told to this station's channels (R70), and the silence timer and the record. -/
def Obligations.CensusEvaluatedInOrder : Prop :=
  ∀ (own : Bool) (n : StationNo) (h : CensusHeader) (m : Maps) (s : State),
    s.member.station = .joined → QueueKept s → takesCensus own s n h →
    (dissentsAlone h m s.number → ∃ u, exec (.census n h m) s = .next u ∧ IsolatedFrom .dissent s u)
    ∧ (isVoid h m → own = true → ∃ u, exec (.census n h m) s = .next u ∧ IsolatedFrom .outvoted s u)
    ∧ (isVoid h m → own = false →
        Gives (.census n h m) s { s with
          line := held s.line, queue := afterCensus own s.queue
          member := { s.member with censusTimer := some s.interval } })
    ∧ (¬ dissentsAlone h m s.number → ¬ isVoid h m → m.joined.getLsbD s.number.val = false →
        ∃ u, exec (.census n h m) s = .next u ∧ IsolatedFrom .absent s u)
    ∧ (¬ dissentsAlone h m s.number → ¬ isVoid h m → m.joined.getLsbD s.number.val = true → HeadStarted s →
        let r : Pool × List WaitEntry :=
          if h.mode = .asked then (s.pool, [])
          else if (∃ i : StationNo, dropsRow m.joined s.pool i = true) then serve s.limit (countedPool m.joined s.pool)
          else (countedPool m.joined s.pool, [])
        Gives (.census n h m) s
          { toldGrants { s with queue := afterCensus own s.queue } r.2 with
            line := held s.line, pool := r.1
            member :=
              { s.member with
                censusTimer := some s.interval, silenceTimer := some (2 * s.interval), lastCensus := m } })

/-- A census at a SYNCING station (R90, R91, R92, R99, R100): founding, the count, NO_SNAPSHOT at the third; a void one restarts the
sync timer alone. A JOINING station only takes part. -/
def Obligations.CensusAtSyncingStation : Prop :=
  ∀ (own : Bool) (n : StationNo) (h : CensusHeader) (m : Maps) (s : State), QueueKept s → takesCensus own s n h →
    (s.member.station = .joining → own = false → s.queue.census = none → Gives (.census n h m) s { s with line := held s.line })
    ∧ (s.member.station = .syncing →
      let s1 : State := { s with line := held s.line, queue := afterCensus own s.queue }
      (isVoid h m → Gives (.census n h m) s { s1 with member := { s.member with syncTimer := some s.interval } })
      ∧ (¬ isVoid h m → m.joined = 0 → m.syncing.getLsbD s.number.val = true →
          Gives (.census n h m) s { flagged s [1] with
            line := held s.line, queue := afterCensus own s.queue
            member := { joinedFrom s with lastCensus := m }
            pool :=
              { level := 0, waitList := []
                rows := Vector.ofFn fun r => ⟨m.syncing.getLsbD r.val, 0, #v[0, 0, 0, 0]⟩ } })
      ∧ (¬ isVoid h m → m.joined = 0 → m.syncing.getLsbD s.number.val = false →
          Gives (.census n h m) s { s1 with member := { s.member with syncTimer := some s.interval, lastCensus := m } })
      ∧ (¬ isVoid h m → m.joined ≠ 0 → s.member.syncCount < 2 →
          Gives (.census n h m) s { s1 with
            member := { s.member with syncTimer := some s.interval, lastCensus := m, syncCount := s.member.syncCount + 1 } })
      ∧ (¬ isVoid h m → m.joined ≠ 0 → s.member.syncCount = 2 →
          ∃ u, exec (.census n h m) s = .next u
            ∧ IsolatedFrom .noSnapshot { s with member := { s.member with lastCensus := m } } u))

/-- The census and sync timers' expiries set the CENSUS action, unless one is pending (R48, R90, R94). -/
def Sys2Proof.Obl.TimersSetCensusAction : Prop :=
  ∀ (p : Nat) (s : State),
    (s.member.station = .joined → s.member.censusTimer = some p →
      Gives .censusTimerExpiry s { s with
        member := { s.member with censusTimer := none }
        queue := { s.queue with census := some (s.queue.census.getD ⟨.timed, 0, false⟩) } })
    ∧ (s.member.station = .syncing → s.member.syncTimer = some p →
      Gives .syncTimerExpiry s { s with
        member := { s.member with syncTimer := none }
        queue := { s.queue with census := some (s.queue.census.getD ⟨.asked, 0, false⟩) } })

/-! ### Channel timers, the probe unit, output supervision -/

namespace Sys2Proof.Obl

/-- A stopping record of a fault found now (R142, R143): repeated where the channel held a report. -/
def stoppingRecord (s : State) (c : ChanNo) (kind : FaultKind) (value : Nat) : FaultRecord :=
  { kind := kind, stopping := true, time := s.monitor.clock, value := value, found := (s.channel c).state
    repeated := (s.channel c).fault.isSome }

/-- What a stopping fault makes of a driving channel, its slot and the flags (R125, R145), from the table. -/
def faultedResult (s : State) (c : ChanNo) (r : FaultRecord) : State :=
  let x := s.channel c
  let y : Channel := { x with state := .faulted, inrushTimer := none, fault := some r }
  let full : Content := .release c (s.cfg c).cls x.counted .full
  let base : State := flagged s [faultFlag c, stoppedFlag c]
  match s.pendingFrame c with
  | .none =>
    if x.state = .inrush ∨ 0 < x.counted then
      { base with queue := placed s.queue (.channel c) full, chan := putChannel s.chan c y }
    else { base with chan := putChannel s.chan c y }
  | _ =>
    if s.queue.frozen (.channel c) then { base with chan := putChannel s.chan c { y with followUp := true } }
    else { base with queue := rewritten s.queue (.channel c) full, chan := putChannel s.chan c y }

/-- A driving channel of a station in order: no stopping record, its slot as R110 gives. -/
def drivesInOrder (s : State) (c : ChanNo) : Prop :=
  s.driven c = true ∧ channelFits s c ∧ SlotsWellKept s.queue ∧ (s.channel c).fault.all (fun r => !r.stopping) = true

/-- The overcurrent limit in mA (R138). -/
def limitOf (s : State) (c : ChanNo) : Nat :=
  if (s.channel c).state = .inrush then min (40 * (s.cfg c).currentLimit) 8000 else 20 * (s.cfg c).currentLimit

end Sys2Proof.Obl

/-- The inrush timer's expiry (R122, R141): RUN, a TRIM of the difference where the hold units are lower, the detector armed. -/
def Sys2Proof.Obl.InrushExpiryRunsAndTrims : Prop :=
  ∀ (c : ChanNo) (p : Nat) (s : State), (s.channel c).state = .inrush → (s.channel c).inrushTimer = some p →
    channelFits s c → SlotsWellKept s.queue →
    let x : Channel := { s.channel c with state := .run, inrushTimer := none, olSpent := false }
    ((s.cfg c).hold < (s.cfg c).inrush →
      Gives (.inrushTimerExpiry c) s { s with
        chan := putChannel s.chan c x
        queue := placed s.queue (.channel c) (.release c (s.cfg c).cls ((s.cfg c).inrush - (s.cfg c).hold) .trim) })
    ∧ ((s.cfg c).inrush ≤ (s.cfg c).hold → Gives (.inrushTimerExpiry c) s { s with chan := putChannel s.chan c x })

/-- The spacing timer's expiry (R121, R122): the head starts and the timer starts again, or the timer stops. -/
def Sys2Proof.Obl.SpacingExpiryStartsHead : Prop :=
  ∀ (p : Nat) (s : State), s.chan.spacing = some p →
    (∀ (c : ChanNo) (rest : List ChanNo), s.chan.startQueue = c :: rest → s.chan.latch = false →
      Gives .spacingTimerExpiry s { flagged s [startedFlag c] with
        chan :=
          { putChannel s.chan c { s.channel c with state := .inrush, inrushTimer := some (10 * (s.cfg c).inrushTime) } with
            startQueue := rest
            spacing := if 0 < s.settings.startSpacing then some s.settings.startSpacing else none } })
    ∧ (s.chan.startQueue = [] ∨ s.chan.latch = true →
      Gives .spacingTimerExpiry s { s with chan := { s.chan with spacing := none } })

/-- The end of a probe window (R112, R131, R132, R133, R134): a load count from the open count to the short count passes, and the CLAIM
is placed; below or above it the channel is FAULTED with its record. -/
def Obligations.ProbeWindowJudged : Prop :=
  ∀ (periods : Nat) (c : ChanNo) (rest : List ChanNo) (r : StartRequest) (s : State),
    s.probe.queue = c :: rest → (s.channel c).state = .probing → (s.channel c).startReq = some r → channelFits s c →
    SlotsWellKept s.queue → (s.channel c).fault.all (fun f => !f.stopping) = true →
    let count := min periods 65535
    let next : Probe := ⟨rest, 0, 0⟩
    ((s.cfg c).openCount ≤ count → count ≤ (s.cfg c).shortCount →
      Gives (.probeWindowEnd periods) s { s with
        probe := next
        queue := placed s.queue (.channel c) (.claim c (s.cfg c).cls (s.cfg c).inrush r.group r.wait)
        chan := putChannel s.chan c { s.channel c with state := .claiming, startReq := none } })
    ∧ ((count < (s.cfg c).openCount ∨ (s.cfg c).shortCount < count) →
      ∃ kind : FaultKind,
        Gives (.probeWindowEnd periods) s { flagged s [faultFlag c, stoppedFlag c] with
          probe := next
          chan := putChannel s.chan c
            { s.channel c with
              state := .faulted, counted := 0, startReq := none, fault := some (stoppingRecord s c kind count) } }
        ∧ (count < (s.cfg c).openCount → kind = .probeOpen)
        ∧ ((s.cfg c).openCount ≤ count → kind = .probeShort))

/-- OVERCURRENT (R138, R125, R143, R145): at a driven channel whose current is above the limit that applies. That it leaves last current
is the model's choice (log 14). -/
def Obligations.OvercurrentFaultsChannel : Prop :=
  ∀ (c : ChanNo) (current : Nat) (s : State),
    (drivesInOrder s c → limitOf s c < min current 8000 ∨ 8000 ≤ current →
      Gives (.overcurrent c current) s (faultedResult s c (stoppingRecord s c .overcurrent (min current 8000))))
    ∧ (s.driven c = false → Gives (.overcurrent c current) s s)

/-- OPEN_LOAD (R140, R141, R143): STOP faults as an overcurrent does; REPORT writes or marks a report and leaves the channel
running. That the record has the detection's own reading and last current stays is the model's choice (log 14). -/
def Sys2Proof.Obl.OpenLoadStopsOrReports : Prop :=
  ∀ (c : ChanNo) (current : Nat) (s : State),
    drivesInOrder s c → (s.channel c).state = .run → (s.channel c).olSpent = false →
    min current 8000 < 2 * (s.cfg c).olThreshold →
    ((s.cfg c).olReport = false →
      Gives (.openLoad c current) s (faultedResult s c (stoppingRecord s c .openLoad (min current 8000))))
    ∧ ((s.cfg c).olReport = true →
      (∀ r, (s.channel c).fault = some r →
        Gives (.openLoad c current) s { flagged s [faultFlag c] with
          chan := putChannel s.chan c { s.channel c with fault := some { r with repeated := true }, olSpent := true } })
      ∧ ((s.channel c).fault = none →
        Gives (.openLoad c current) s { flagged s [faultFlag c] with
          chan := putChannel s.chan c
            { s.channel c with
              olSpent := true
              fault := some
                { kind := .openLoad, stopping := false, time := s.monitor.clock, value := min current 8000, found := .run
                  repeated := false } } }))

/-- The spent detector is re-armed when the current rises to the threshold while it is active (R141); a measurement is kept, saturated
at 8000, in every channel state (R137). -/
def Sys2Proof.Obl.MeasurementsKeptAndRearm : Prop :=
  ∀ (c : ChanNo) (current : Nat) (s : State),
    Gives (.currentMeasurement c current) s
      { s with chan := putChannel s.chan c { s.channel c with lastCurrent := min current 8000 } }
    ∧ (s.driven c = true → (s.channel c).state = .run → (s.cfg c).olThreshold ≠ 0 → 2 * (s.cfg c).olThreshold ≤ min current 8000 →
      Gives (.openLoadRearm c current) s { s with chan := putChannel s.chan c { s.channel c with olSpent := false } })
    ∧ (s.driven c = false ∨ (s.channel c).olSpent = true → Gives (.openLoad c current) s s)

/-! ### Temperature, supply, clock -/

namespace Sys2Proof.Obl

/-- Whether retirement removes a channel's entry: an unsent CLAIM (R127). -/
def claimRemoved (s : State) (c : ChanNo) : Bool := decide ((s.channel c).state = .claiming) && !s.queue.frozen (.channel c)

/-- Whether a driving channel that is retired has units to give back or a frame pending (R113, R127). -/
def givesBack (s : State) (c : ChanNo) : Bool :=
  decide ((s.channel c).state = .inrush) || decide (0 < (s.channel c).counted) || decide (s.pendingFrame c ≠ .none)

/-- Whether retirement places a new entry for a channel (R127). -/
def releasePlaced (s : State) (c : ChanNo) : Bool :=
  match (s.channel c).state with
  | .waiting | .armed | .startWait => true
  | .inrush | .run => givesBack s c && (s.queue.entryOf (.channel c)).isNone
  | _ => false

/-- Retirement with reason HOT or SUPPLY of one channel, its record and its slot (R113, R127): a release placed has count 0 (R40), a
rewrite keeps the entry's count (R44), and an entry on the line is untouched (R45). -/
def RetiredTo (r : Reason) (s t : State) (c : ChanNo) : Prop :=
  let x := s.channel c
  let y := t.channel c
  let slot := s.queue.entryOf (.channel c)
  let after := t.queue.entryOf (.channel c)
  let full : Content := .release c (s.cfg c).cls x.counted .full
  match x.state with
  | .disabled | .off | .releasing | .faulted => y = x ∧ after = slot
  | .probing => y = { x with state := .off, startReq := none, lastReason := some r } ∧ after = none
  | .claiming =>
    if s.queue.frozen (.channel c) then y = { x with state := .releasing, followUp := true, lastReason := some r } ∧ after = slot
    else y = { x with state := .off, lastReason := some r } ∧ after = none
  | .waiting =>
    y = { x with state := .releasing, lastReason := some r }
      ∧ after = some ⟨.channel c, .release c (s.cfg c).cls 0 .withdraw, 0, false⟩
  | .armed | .startWait => y = { x with state := .releasing, lastReason := some r } ∧ after = some ⟨.channel c, full, 0, false⟩
  | .inrush | .run =>
    y = { x with
        state := if r = .hot then .faulted else if givesBack s c then .releasing else .off
        inrushTimer := none, lastReason := some r
        followUp := s.queue.frozen (.channel c)
        fault := if r = .hot then some (stoppingRecord s c .thermal x.lastCurrent) else x.fault }
      ∧ after = match slot with
        | some e => some (if e.onLine then e else { e with content := full })
        | none => if givesBack s c then some ⟨.channel c, full, 0, false⟩ else none

/-- The whole of such a retirement (R127, R129, R145): every channel, the two queues, the probe's counters (R135), the offer, gone where the
CLAIM removed was offered in arbitration (R23), the slots in placement order, the events. That the releases are placed in channel number
order is the model's choice (log 24). -/
def Retires (r : Reason) (s t : State) (flag : Fin 27) : Prop :=
  t = { s with
      line :=
        if s.line.state = .arbitrating ∧ (∃ c : ChanNo, claimRemoved s c = true ∧ s.line.offer = some (.entry (.channel c))) then
          { s.line with offer := none }
        else s.line
      queue := { s.queue with entries := t.queue.entries }, chan := t.chan
      probe := if s.probe.queue = [] then s.probe else ⟨[], 0, 0⟩
      monitor := t.monitor, port := { s.port with flags := t.port.flags } }
    ∧ (∀ c : ChanNo, RetiredTo r s t c)
    ∧ t.chan.startQueue = [] ∧ t.chan.spacing = s.chan.spacing ∧ t.chan.latch = s.chan.latch
    ∧ (∀ o : Owner, (∀ c : ChanNo, o ≠ .channel c) → t.queue.entryOf o = s.queue.entryOf o)
    ∧ t.queue.entries.map Entry.owner
      = (s.queue.entries.map Entry.owner).filter (fun o => match o with | .channel c => !claimRemoved s c | _ => true)
        ++ (allChannels.filter (releasePlaced s)).map Owner.channel
    ∧ Raises s t (flag :: (stoppedOf fun c => (s.channel c).state.inService)
        ++ (if r = .hot then (allChannels.filter fun c => (s.channel c).state = .inrush || (s.channel c).state = .run).map faultFlag
            else []))

/-- The channels of a station in order (R110, R121, R131, R142). -/
def ChannelsInOrder (s : State) : Prop := ChannelsFit s ∧ QueueKept s ∧ FaultsExact s

end Sys2Proof.Obl

/-- The temperature states (R147, R148, R149): every change raises HOT, and entry to SHUTDOWN retires the channels with reason HOT.
The operand is the temperature that held for the 1 ms: one at or above 150 degrees fulfils both conditions, and is one change (R147). -/
def Obligations.TemperatureStatesChange : Prop :=
  ∀ (die : Int) (s : State),
    (s.monitor.temperature = .normal → 125 ≤ die → die < 150 →
      Gives (.thermalWarning die) s { flagged s [2] with monitor := { s.monitor with temperature := .warning } })
    ∧ (s.monitor.temperature = .warning → die < 110 →
      Gives (.thermalWarning die) s { flagged s [2] with monitor := { s.monitor with temperature := .normal } })
    ∧ (s.monitor.temperature = .shutdown → die < 135 →
      Gives (.shutdownExit die) s { flagged s [2] with monitor := { s.monitor with temperature := .warning } })
    ∧ (s.monitor.temperature ≠ .shutdown → 150 ≤ die → ChannelsInOrder s →
      ∃ t, exec (.thermalShutdown die) s = .next t ∧ exec (.thermalWarning die) s = .next t ∧ Retires .hot s t 2
        ∧ t.monitor = { s.monitor with temperature := .shutdown } ∧ t.faultOutput = true)
    ∧ ((die < 110 ∧ s.monitor.temperature ≠ .warning) ∨ (110 ≤ die ∧ die < 150 ∧ s.monitor.temperature = .warning)
        ∨ s.monitor.temperature = .shutdown → Gives (.thermalWarning die) s s)

/-- The supply states (R150, R151, R152, R154): every change raises SUPPLY, and entry to LOCKOUT retires the channels with reason
SUPPLY. -/
def Sys2Proof.Obl.SupplyStatesChange : Prop :=
  ∀ (vs : Nat) (s : State),
    (s.monitor.supply ≠ .lockout → vs < 15000 → ChannelsInOrder s →
      ∃ t, exec (.lockoutEntry vs) s = .next t ∧ Retires .supply s t 3
        ∧ t.monitor = { s.monitor with supply := .lockout })
    ∧ (s.monitor.supply = .lockout → 16000 < vs →
      Gives (.lockoutExit vs) s { flagged s [3] with monitor := { s.monitor with supply := .normal } })
    ∧ (s.monitor.supply = .sag → 18000 + 500 * s.settings.sagCode < vs →
      Gives (.sagEpisodeClose vs) s { flagged s [3] with monitor := { s.monitor with supply := .normal } })

/-- A sag episode opens (R152, R153, R53): SAG, SUPPLY, and one shed raise where sag shedding is on, the station is JOINED and the
level is below 3, placed, rewritten or deferred as the shed slot stands. -/
def Sys2Proof.Obl.SagOpensAndAsksRaise : Prop :=
  ∀ (vs : Nat) (s : State), s.monitor.supply = .normal → s.member.station ≠ .unconfigured →
    vs < 17000 + 500 * s.settings.sagCode → SlotsWellKept s.queue →
    let base : State := { flagged s [3] with monitor := { s.monitor with supply := .sag } }
    (s.settings.sagShedding = false ∨ s.member.station ≠ .joined ∨ s.pool.level = 3 → Gives (.sagEpisodeOpen vs) s base)
    ∧ (s.settings.sagShedding = true → s.member.station = .joined → s.pool.level < 3 →
      ((∀ e ∈ s.queue.entries, e.owner ≠ .shed) →
        Gives (.sagEpisodeOpen vs) s { base with queue := placed s.queue .shed (.shed .raise s.pool.level) })
      ∧ ∀ e ∈ s.queue.entries, e.owner = .shed →
        (e.onLine = true → Gives (.sagEpisodeOpen vs) s { base with queue := { s.queue with deferredRaise := true } })
        ∧ (∀ l : ShedLevel, e.onLine = false → e.content = .shed .set l → s.pool.level < l → Gives (.sagEpisodeOpen vs) s base)
        ∧ (e.onLine = false → (∀ l : ShedLevel, e.content = .shed .set l → l ≤ s.pool.level) →
          Gives (.sagEpisodeOpen vs) s { base with queue := rewritten s.queue .shed (.shed .raise s.pool.level) }))

/-- The station clock advances by one and wraps, and nothing else moves (R156). -/
def Sys2Proof.Obl.ClockTickWraps : Prop :=
  ∀ s : State, ∃ t : BitVec 32, Gives .stationClockTick s { s with monitor := { s.monitor with clock := t } }
    ∧ (s.monitor.clock.toNat < 4294967295 → t.toNat = s.monitor.clock.toNat + 1)
    ∧ (s.monitor.clock.toNat = 4294967295 → t.toNat = 0)

/-! ### The outputs -/

/-- When an output is driven (R110, R124), when FAULT is active (R146), the summary byte's fields (R159), and what the station puts on the
two wires in every bit time (R18, R19, R22, R23, R26, R28, R32, R33, R34, R35). -/
def Obligations.OutputsFollowState : Prop :=
  ∀ s : State,
    (∀ c : ChanNo, s.driven c = true ↔
      s.member.station = .joined ∧ s.chan.latch = false
        ∧ (((s.channel c).state = .inrush ∧ (s.cfg c).inrush ≤ (s.channel c).counted)
          ∨ ((s.channel c).state = .run ∧ (s.cfg c).hold ≤ (s.channel c).counted)))
    ∧ (s.faultOutput = true ↔
      (∃ c : ChanNo, (s.channel c).fault ≠ none ∧ (s.cfg c).faultToPin = true) ∨ s.monitor.temperature = .shutdown)
    ∧ s.summary.getLsbD 7 = s.attn ∧ s.summary.getLsbD 6 = s.faultOutput
    ∧ (s.summary.toNat / 8) % 8 = s.member.station.code
    ∧ (s.summary.getLsbD 2 = true ↔ s.port.notes ≠ [])
    ∧ (s.summary.getLsbD 1 = true ↔ s.monitor.temperature = .shutdown)
    ∧ (s.summary.getLsbD 0 = true ↔ s.monitor.supply = .lockout)
    ∧ (s.holdOut = false ↔ s.line.state = .holding ∧ s.line.heldNotes ≠ [])
    ∧ (∀ (others : List Bool) (w : BitTime),
        (s.dataLevel others w = true ↔ s.dataOut w = true ∧ ∀ o ∈ others, o = true)
        ∧ (s.holdLevel others = true ↔ s.holdOut = true ∧ ∀ o ∈ others, o = true))
    ∧ (∀ w : BitTime, s.line.state ∈ [LineState.offLine, .idle, .holding, .stuck] → s.dataOut w = true)
    ∧ (s.line.state = .arbitrating → s.dataOut .startBit = false
        ∧ ∀ i : Fin 9, s.dataOut (.field i) = (fieldOf (s.line.sentRank, s.number)).getD i true)
    ∧ (s.line.state = .arbitrating → ∀ w : BitTime, w ≠ .startBit → (∀ i : Nat, i < 9 → w ≠ .field i) → s.dataOut w = true)
    ∧ (∀ (f : Frame) (i : Nat), s.line.state = .sending → s.line.collided = false → s.line.ownFrame = some f →
        s.dataOut (.body i) = (frameBits s.number f).getD i true)
    ∧ (s.line.state = .sending → ∀ w : BitTime, s.line.collided = true ∨ (∀ i : Nat, w ≠ .body i) → s.dataOut w = true)
    ∧ (∀ bits : List Bool, s.line.state = .receiving → s.line.passive = false →
        (s.dataOut (.slotOne bits) = false ↔ receiveBits bits = none))
    ∧ (s.line.state = .receiving → ∀ w : BitTime, s.line.passive = true ∨ (∀ bits : List Bool, w ≠ .slotOne bits) →
        s.dataOut w = true)
    ∧ (s.line.state = .answering → ∀ w : BitTime, (∀ i : Nat, w ≠ .answerBit i) → (∀ bits : List Bool, w ≠ .slotTwo bits) →
        s.dataOut w = true)
    ∧ (∀ (a : Answer) (m : Maps), s.line.state = .answering → s.line.answer = some a →
        (∀ i : Nat, s.dataOut (.answerBit i) = false ↔
          (i = s.number.val ∧ a.joined = true) ∨ (i = 32 + s.number.val ∧ a.syncing = true)
            ∨ (i = 64 + s.number.val ∧ a.attention = true) ∨ (i = 96 + s.number.val ∧ a.dissent = true))
        ∧ (s.dataOut (.slotTwo (mapsBits m)) = false ↔
          (a.joined = true ∧ m.joined.getLsbD s.number.val = false) ∨ (a.syncing = true ∧ m.syncing.getLsbD s.number.val = false)
            ∨ (a.attention = true ∧ m.attention.getLsbD s.number.val = false)
            ∨ (a.dissent = true ∧ m.dissent.getLsbD s.number.val = false)))

/-! ### The whole machine -/

namespace Sys2Proof.Obl

/-- The accepted frames that can change the pool state, and the resets (R15, R16). -/
def changesPool : Instr → Bool
  | .powerOn _ | .pinReset _ | .transactionEnd (.rise _) _ _ => true
  | .censusAnswerField _ _ => false
  | c => match frameOf c with
    | some (_, .go _) | some (_, .note _ _) => false
    | some _ => true
    | none => false

/-- What a snapshot brings is a pool state in order, within the limit it carries (R11, R87); other commands bring none. -/
def SnapshotsInOrder (s : State) : Prop :=
  ∀ n t p rest, s.pending = .snapshot n t p :: rest → PoolKept t.limit p

/-- A frame that bears this station's number is this station's own: no other station shares it (R32, R80). -/
def NoTwin (s : State) : Prop :=
  ∀ c rest n f, s.pending = c :: rest → frameOf c = some (n, f) → n = s.number →
    (s.line.state = .sending ∨ s.line.state = .answering)

end Sys2Proof.Obl

/-- R15: the pool state changes only by an accepted frame, by isolation, or by a reset. -/
def Obligations.PoolChangesOnlyByFrames : Prop :=
  ∀ (c : Instr) (s t : State), exec c s = .next t → changesPool c = false →
    t.pool = s.pool ∨ (t.pool = emptyPool ∧ t.member.station = .isolated ∧ s.participating = true)

/-- What a commit froze stays until a hard reset (R107, R162, R2): the store, the terms and the number; and before it SET_ITEM alone
writes the store. -/
def Sys2Proof.Obl.CommittedStoreStays : Prop :=
  ∀ (c : Instr) (s t : State), exec c s = .next t → (∀ p, c ≠ .powerOn p) → (∀ p, c ≠ .pinReset p) →
    t.number = s.number
    ∧ (s.member.station ≠ .unconfigured → t.settings = s.settings ∧ t.terms = s.terms)
    ∧ ((∀ i v, c ≠ .setItem i v) → t.settings = s.settings)
    ∧ (c ≠ .commit → t.terms = s.terms)

/-- The station state moves only along the transitions of 05_membership_and_census.md. -/
def Sys2Proof.Obl.StationStateMovesByTable : Prop :=
  ∀ (c : Instr) (s t : State), exec c s = .next t → (∀ p, c ≠ .powerOn p) → (∀ p, c ≠ .pinReset p) →
    (∀ b d v, c ≠ .transactionEnd (.rise b) d v) → t.member.station ≠ s.member.station →
    (s.member.station, t.member.station) ∈
      [(StationState.unconfigured, StationState.ready), (.ready, .joining), (.isolated, .joining), (.joining, .syncing),
        (.syncing, .joined), (.joining, .isolated), (.syncing, .isolated), (.joined, .isolated)]

/-- Bits that are sent are received (R22, R24, R25, R34, R39): what a receiver makes of the bits a sender drives is the sender and the
frame, for every frame in range; the answer field's 128 bits read back as the maps, the wired AND of several as their union; and the bits
on SHD fill the frame's length from start bit to last spoil slot. -/
def Obligations.FrameBitsReceivedBack : Prop :=
  (∀ (n : StationNo) (f : Frame) (m : Maps), frameInRange f = true →
    receiveBits (frameBits n f) = some (n, f) ∧ (shdBits n f m).length = frameTime f)
  ∧ (∀ m : Maps, (mapsBits m).length = 128 ∧ readMaps (mapsBits m) = m
      ∧ ∀ i : Fin 32, (mapsBits m).getD i true = !m.joined.getLsbD i ∧ (mapsBits m).getD (32 + i) true = !m.syncing.getLsbD i
        ∧ (mapsBits m).getD (64 + i) true = !m.attention.getLsbD i ∧ (mapsBits m).getD (96 + i) true = !m.dissent.getLsbD i)
  ∧ ∀ answers : List Maps,
      readMaps (wireBits 128 (answers.map mapsBits))
        = ⟨answers.foldl (fun x m => x ||| m.joined) 0, answers.foldl (fun x m => x ||| m.syncing) 0,
          answers.foldl (fun x m => x ||| m.attention) 0, answers.foldl (fun x m => x ||| m.dissent) 0⟩

/-- The station's blocks agree with its station state (R16, R17, R19, R56, R81, R109, R123), and every step keeps it so. -/
def Obligations.StationAgreementKept : Prop :=
  ∀ s t : State, BlocksAgree s → step s = .next t → BlocksAgree t

/-- The transmit queue stays in order (R30, R31, R40 to R53), and every step keeps it so. -/
def Obligations.TransmitQueueKept : Prop :=
  ∀ s t : State, LineFollowsStation s → NotesBounded s → QueueKept s → step s = .next t → QueueKept t ∧ NotesBounded t

/-- The pool state stays within the pool limit, sheds what R7 sheds, and keeps its wait list (R3, R4, R7, R9, R11), whatever frames
are applied, where snapshots bring a state in order. -/
def Obligations.PoolStateKept : Prop :=
  ∀ s t : State, PoolEmptyUnlessJoined s → PoolKept s.limit s.pool → SnapshotsInOrder s → step s = .next t →
    PoolKept t.limit t.pool

/-- R109, R110, R116, R121, R131, R142 together: the own row mirrors the channels, and every step keeps it so, at a station whose
number no other bears. -/
def Obligations.OwnRowMirrorKept : Prop :=
  ∀ s t : State, Accounted s → SnapshotsInOrder s → NoTwin s → step s = .next t → Accounted t

/-- Every invariant holds after reset. -/
def Obligations.InvariantsHoldAtReset : Prop :=
  BlocksAgree State.reset ∧ QueueKept State.reset ∧ NotesBounded State.reset ∧ PoolKept State.reset.limit State.reset.pool
    ∧ Accounted State.reset

/-- A quiescent station's own row is zero and no entry waits for it (R184), from R109, R110 and R116. -/
def Obligations.QuiescentHoldsNothing : Prop :=
  ∀ s : State, OwnRowMirrors s → OwnEntriesWait s → (∀ c : ChanNo, channelFits s c) → quiescent s = true →
    (∀ k : PriClass, s.pool.rows[s.number].totals[k] = 0) ∧ ∀ e ∈ s.pool.waitList, e.station ≠ s.number

/-! ### Statements over several commands -/

/-- What the bits of a transaction decide (R158, R159), and the requests that have no effect: a code outside the table (R170), and every
request while no transaction is counted (R168). -/
def Obligations.RequestsNotDecidedOrUnknown : Prop :=
  Obl.HostBitsDecide ∧ Obl.UnknownCodeRefused ∧ Obl.RequestsIgnoredUntilCsnRises

/-- CSN's edges: the summary sampled; a soft reset carried out, a framing error, or nothing; and SDO (R158, R159, R168, R183).
What the soft reset
keeps of the reply, and the fall beside the rise, is the model's choice (log 6); the terms that tell a COMMIT are its reading (log 13). -/
def Obligations.TransactionEndActsByCount : Prop :=
  Obl.SoftResetCarriedOut ∧ Obl.TransactionEndChecksCount ∧ Obl.SdoShiftsReply

/-- GO and SET_SHED (R52, R54, R176, R177). -/
def Obligations.GoAndShedRequestsPlaced : Prop := Obl.GoPlacesEntry ∧ Obl.SetShedMeetsSlot

/-- The stop requests of the host and of the STOP input (R50, R123, R178, R179). -/
def Obligations.StopRequestsMeetAction : Prop := Obl.StopRequestsForAll ∧ Obl.StationStopMeetsAction

/-- The note queue's head read and dropped, and the hold limit (R29, R166, R181), in every line state (the model's reading for STUCK,
log 8). -/
def Obligations.NotesReadAndDropped : Prop := Obl.ReadNoteByteReadsHead ∧ Obl.NoteLeavesByDropOrExpiry

/-- The line's passages outside an own frame (R20, R23, R26, R28, R36, R37), with the model's readings of logs 3, 8 and 20. -/
def Obligations.LinePassagesOutsideOwnFrame : Prop := Obl.LineStatePassages ∧ Obl.ReceiverCountsNoSpoil

/-- The outcomes of the station's own CLAIM (R58, R114, R115, R116). -/
def Obligations.OwnClaimOutcomes : Prop := Obl.OwnClaimTold ∧ Obl.OwnClaimSettlesFollowUp

/-- A SHED that does not raise the level, and the raise deferred behind an own SHED (R53, R73, R74, R75). -/
def Obligations.ShedKeepsLowersOrDefers : Prop := Obl.ShedKeepsOrLowersLevel ∧ Obl.DeferredRaiseFollowsOwnShed

/-- The timers' expiries and the clock's tick (R48, R90, R94, R121, R122, R156). -/
def Obligations.TimersAndClockAct : Prop :=
  Obl.InrushExpiryRunsAndTrims ∧ Obl.SpacingExpiryStartsHead ∧ Obl.TimersSetCensusAction ∧ Obl.ClockTickWraps

/-- The open-load detector and the current measurement (R137, R140, R141, R143). That a detection carries its own reading and leaves last
current to the measurement is the model's choice (log 14). -/
def Obligations.OpenLoadAndMeasurement : Prop := Obl.OpenLoadStopsOrReports ∧ Obl.MeasurementsKeptAndRearm

/-- The supply states and the sag episodes (R53, R150, R151, R152, R153, R154). -/
def Obligations.SupplyAndSagStates : Prop := Obl.SupplyStatesChange ∧ Obl.SagOpensAndAsksRaise

/-- What a commit froze stays, and the station state moves along the spec's table (R2, R81, R107, R162). -/
def Obligations.CommitFreezesAndStatesMove : Prop := Obl.CommittedStoreStays ∧ Obl.StationStateMovesByTable

/-- The values of reset, and a hard reset's effect (R17, R82, R130, R149, R154, R161, R168), with the model's own of logs 1, 9 and 25. -/
def Obligations.HardResetHoldsGivenValues : Prop := Obl.ResetHoldsGivenValues ∧ Obl.HardResetSetsStation
end

