-- ==== Sys2Proof/Laws/Accept.lean ====
section
/-! SUPPORT. What a request and an accepted frame can come to, each said once: the gate of the host port (spec/09_host_port.md R158,
R168), the part a station takes in a frame (spec/02_the_share_line.md R26, R27), the end of a frame, isolation
(spec/05_membership_and_census.md R103). -/

namespace Sys2Proof.Machine

/-! ### Requests -/

theorem request_counted {s : State} (h : s.port.awaitCsn = false) (r : Result) : request s r = r := by
  simp [request, h]

theorem request_uncounted {s : State} (h : s.port.awaitCsn = true) (r : Result) : request s r = .next s := by
  simp [request, h]

/-- A refused request writes the reply and nothing else (R160). -/
theorem refuse_eq (s : State) (o : ReqOutcome) :
    refuse s o = .next { s with port := { s.port with reply := some ⟨s.transactionSummary, o, 0⟩, sampled := some s.transactionSummary } } := rfl

/-- A taken request answers its effect with the reply written (R160). -/
theorem accept_eq (s t : State) :
    accept s t
      = .next { t with
        port := { t.port with reply := some ⟨s.transactionSummary, .accepted, 0⟩, sampled := some s.transactionSummary } } := rfl

theorem acceptValue_eq (s t : State) (v : BitVec 16) :
    acceptValue s t v
      = .next { t with
        port := { t.port with reply := some ⟨s.transactionSummary, .accepted, v⟩, sampled := some s.transactionSummary } } := rfl

/-! ### Accepted frames -/

/-- An accepted frame always has a next state. -/
theorem acceptFrame_next (s : State) (role : FrameRole) (f : Bool → State → State) : ∃ t, acceptFrame s role f = .next t := by
  cases role <;> exact ⟨_, rfl⟩

/-- The end of a frame writes the line alone, and keeps a held note and whether the controller listens. -/
theorem enterHolding_frame (s : State) : enterHolding s = { s with line := lineAfter s.line .holding } := rfl

theorem backToIdle_frame (s : State) : backToIdle s = { s with line := lineAfter s.line .idle } := rfl

/-- A station that holds no note goes from an accepted frame into HOLDING, unless the hold limit passed during it (R27, R36). -/
theorem lineAfter_state (l : Line) (st : LineState) : (lineAfter l st).state = if l.holdStuck then .stuck else st := rfl

/-! ### Isolation -/

/-- A station that does not participate is not isolated (R104). -/
theorem isolate_of_not_participating {s : State} (h : s.participating = false) (r : IsoReason) : isolate s r = s := by
  simp [isolate, h]

/-- Raising STOPPED for channels writes the port alone. -/
theorem raiseStopped_frame (s : State) : raiseStopped s = { s with port := (raiseStopped s).port } := by
  have h : ∀ (l : List ChanNo) (t : State), t = { s with port := t.port } →
      l.foldl (fun t c => if (s.channel c).state.inService then t.raise (.stopped c) else t) t
        = { s with port := (l.foldl (fun t c => if (s.channel c).state.inService then t.raise (.stopped c) else t) t).port } := by
    intro l
    induction l with
    | nil => intro t ht; exact ht
    | cons c l ih =>
      intro t ht
      simp only [List.foldl_cons]
      apply ih
      split
      · rw [ht]; rfl
      · exact ht
  exact h allChannels s rfl

/-- Isolation leaves the number, the settings, the terms, the STOP input, the monitor and the waiting commands as they were
(R103, R155). -/
theorem isolate_keeps (s : State) (r : IsoReason) :
    (isolate s r).number = s.number ∧ (isolate s r).settings = s.settings ∧ (isolate s r).terms = s.terms
      ∧ (isolate s r).stopInput = s.stopInput ∧ (isolate s r).monitor = s.monitor ∧ (isolate s r).pending = s.pending := by
  unfold isolate
  split
  · simp only [State.raise, State.withMember, State.withPool, State.withLine, State.withQueue, State.withProbe, State.withPort,
      retireIsolated, State.withChan]
    split <;> rw [raiseStopped_frame] <;> simp
  · simp

end Sys2Proof.Machine
end

