-- ==== Sys2Proof/Laws/State.lean ====
section
/-! SUPPORT. What each writer of State does to each field: one lemma per field per update, true by unfolding. -/

namespace Sys2Proof.Machine

/-! ### withSettings -/

@[simp] theorem State.number_withSettings (s : State) (x : Settings) : (s.withSettings x).number = s.number := rfl
@[simp] theorem State.settings_withSettings (s : State) (x : Settings) : (s.withSettings x).settings = x := rfl
@[simp] theorem State.terms_withSettings (s : State) (x : Settings) : (s.withSettings x).terms = s.terms := rfl
@[simp] theorem State.stopInput_withSettings (s : State) (x : Settings) : (s.withSettings x).stopInput = s.stopInput := rfl
@[simp] theorem State.pool_withSettings (s : State) (x : Settings) : (s.withSettings x).pool = s.pool := rfl
@[simp] theorem State.line_withSettings (s : State) (x : Settings) : (s.withSettings x).line = s.line := rfl
@[simp] theorem State.queue_withSettings (s : State) (x : Settings) : (s.withSettings x).queue = s.queue := rfl
@[simp] theorem State.member_withSettings (s : State) (x : Settings) : (s.withSettings x).member = s.member := rfl
@[simp] theorem State.chan_withSettings (s : State) (x : Settings) : (s.withSettings x).chan = s.chan := rfl
@[simp] theorem State.probe_withSettings (s : State) (x : Settings) : (s.withSettings x).probe = s.probe := rfl
@[simp] theorem State.monitor_withSettings (s : State) (x : Settings) : (s.withSettings x).monitor = s.monitor := rfl
@[simp] theorem State.port_withSettings (s : State) (x : Settings) : (s.withSettings x).port = s.port := rfl
@[simp] theorem State.pending_withSettings (s : State) (x : Settings) : (s.withSettings x).pending = s.pending := rfl

/-! ### withTerms -/

@[simp] theorem State.number_withTerms (s : State) (x : Option Terms) : (s.withTerms x).number = s.number := rfl
@[simp] theorem State.settings_withTerms (s : State) (x : Option Terms) : (s.withTerms x).settings = s.settings := rfl
@[simp] theorem State.terms_withTerms (s : State) (x : Option Terms) : (s.withTerms x).terms = x := rfl
@[simp] theorem State.stopInput_withTerms (s : State) (x : Option Terms) : (s.withTerms x).stopInput = s.stopInput := rfl
@[simp] theorem State.pool_withTerms (s : State) (x : Option Terms) : (s.withTerms x).pool = s.pool := rfl
@[simp] theorem State.line_withTerms (s : State) (x : Option Terms) : (s.withTerms x).line = s.line := rfl
@[simp] theorem State.queue_withTerms (s : State) (x : Option Terms) : (s.withTerms x).queue = s.queue := rfl
@[simp] theorem State.member_withTerms (s : State) (x : Option Terms) : (s.withTerms x).member = s.member := rfl
@[simp] theorem State.chan_withTerms (s : State) (x : Option Terms) : (s.withTerms x).chan = s.chan := rfl
@[simp] theorem State.probe_withTerms (s : State) (x : Option Terms) : (s.withTerms x).probe = s.probe := rfl
@[simp] theorem State.monitor_withTerms (s : State) (x : Option Terms) : (s.withTerms x).monitor = s.monitor := rfl
@[simp] theorem State.port_withTerms (s : State) (x : Option Terms) : (s.withTerms x).port = s.port := rfl
@[simp] theorem State.pending_withTerms (s : State) (x : Option Terms) : (s.withTerms x).pending = s.pending := rfl

/-! ### withStopInput -/

@[simp] theorem State.number_withStopInput (s : State) (x : Bool) : (s.withStopInput x).number = s.number := rfl
@[simp] theorem State.settings_withStopInput (s : State) (x : Bool) : (s.withStopInput x).settings = s.settings := rfl
@[simp] theorem State.terms_withStopInput (s : State) (x : Bool) : (s.withStopInput x).terms = s.terms := rfl
@[simp] theorem State.stopInput_withStopInput (s : State) (x : Bool) : (s.withStopInput x).stopInput = x := rfl
@[simp] theorem State.pool_withStopInput (s : State) (x : Bool) : (s.withStopInput x).pool = s.pool := rfl
@[simp] theorem State.line_withStopInput (s : State) (x : Bool) : (s.withStopInput x).line = s.line := rfl
@[simp] theorem State.queue_withStopInput (s : State) (x : Bool) : (s.withStopInput x).queue = s.queue := rfl
@[simp] theorem State.member_withStopInput (s : State) (x : Bool) : (s.withStopInput x).member = s.member := rfl
@[simp] theorem State.chan_withStopInput (s : State) (x : Bool) : (s.withStopInput x).chan = s.chan := rfl
@[simp] theorem State.probe_withStopInput (s : State) (x : Bool) : (s.withStopInput x).probe = s.probe := rfl
@[simp] theorem State.monitor_withStopInput (s : State) (x : Bool) : (s.withStopInput x).monitor = s.monitor := rfl
@[simp] theorem State.port_withStopInput (s : State) (x : Bool) : (s.withStopInput x).port = s.port := rfl
@[simp] theorem State.pending_withStopInput (s : State) (x : Bool) : (s.withStopInput x).pending = s.pending := rfl

/-! ### withPool -/

@[simp] theorem State.number_withPool (s : State) (x : Pool) : (s.withPool x).number = s.number := rfl
@[simp] theorem State.settings_withPool (s : State) (x : Pool) : (s.withPool x).settings = s.settings := rfl
@[simp] theorem State.terms_withPool (s : State) (x : Pool) : (s.withPool x).terms = s.terms := rfl
@[simp] theorem State.stopInput_withPool (s : State) (x : Pool) : (s.withPool x).stopInput = s.stopInput := rfl
@[simp] theorem State.pool_withPool (s : State) (x : Pool) : (s.withPool x).pool = x := rfl
@[simp] theorem State.line_withPool (s : State) (x : Pool) : (s.withPool x).line = s.line := rfl
@[simp] theorem State.queue_withPool (s : State) (x : Pool) : (s.withPool x).queue = s.queue := rfl
@[simp] theorem State.member_withPool (s : State) (x : Pool) : (s.withPool x).member = s.member := rfl
@[simp] theorem State.chan_withPool (s : State) (x : Pool) : (s.withPool x).chan = s.chan := rfl
@[simp] theorem State.probe_withPool (s : State) (x : Pool) : (s.withPool x).probe = s.probe := rfl
@[simp] theorem State.monitor_withPool (s : State) (x : Pool) : (s.withPool x).monitor = s.monitor := rfl
@[simp] theorem State.port_withPool (s : State) (x : Pool) : (s.withPool x).port = s.port := rfl
@[simp] theorem State.pending_withPool (s : State) (x : Pool) : (s.withPool x).pending = s.pending := rfl

/-! ### withLine -/

@[simp] theorem State.number_withLine (s : State) (x : Line) : (s.withLine x).number = s.number := rfl
@[simp] theorem State.settings_withLine (s : State) (x : Line) : (s.withLine x).settings = s.settings := rfl
@[simp] theorem State.terms_withLine (s : State) (x : Line) : (s.withLine x).terms = s.terms := rfl
@[simp] theorem State.stopInput_withLine (s : State) (x : Line) : (s.withLine x).stopInput = s.stopInput := rfl
@[simp] theorem State.pool_withLine (s : State) (x : Line) : (s.withLine x).pool = s.pool := rfl
@[simp] theorem State.line_withLine (s : State) (x : Line) : (s.withLine x).line = x := rfl
@[simp] theorem State.queue_withLine (s : State) (x : Line) : (s.withLine x).queue = s.queue := rfl
@[simp] theorem State.member_withLine (s : State) (x : Line) : (s.withLine x).member = s.member := rfl
@[simp] theorem State.chan_withLine (s : State) (x : Line) : (s.withLine x).chan = s.chan := rfl
@[simp] theorem State.probe_withLine (s : State) (x : Line) : (s.withLine x).probe = s.probe := rfl
@[simp] theorem State.monitor_withLine (s : State) (x : Line) : (s.withLine x).monitor = s.monitor := rfl
@[simp] theorem State.port_withLine (s : State) (x : Line) : (s.withLine x).port = s.port := rfl
@[simp] theorem State.pending_withLine (s : State) (x : Line) : (s.withLine x).pending = s.pending := rfl

/-! ### withQueue -/

@[simp] theorem State.number_withQueue (s : State) (x : TxQueue) : (s.withQueue x).number = s.number := rfl
@[simp] theorem State.settings_withQueue (s : State) (x : TxQueue) : (s.withQueue x).settings = s.settings := rfl
@[simp] theorem State.terms_withQueue (s : State) (x : TxQueue) : (s.withQueue x).terms = s.terms := rfl
@[simp] theorem State.stopInput_withQueue (s : State) (x : TxQueue) : (s.withQueue x).stopInput = s.stopInput := rfl
@[simp] theorem State.pool_withQueue (s : State) (x : TxQueue) : (s.withQueue x).pool = s.pool := rfl
@[simp] theorem State.line_withQueue (s : State) (x : TxQueue) : (s.withQueue x).line = s.line := rfl
@[simp] theorem State.queue_withQueue (s : State) (x : TxQueue) : (s.withQueue x).queue = x := rfl
@[simp] theorem State.member_withQueue (s : State) (x : TxQueue) : (s.withQueue x).member = s.member := rfl
@[simp] theorem State.chan_withQueue (s : State) (x : TxQueue) : (s.withQueue x).chan = s.chan := rfl
@[simp] theorem State.probe_withQueue (s : State) (x : TxQueue) : (s.withQueue x).probe = s.probe := rfl
@[simp] theorem State.monitor_withQueue (s : State) (x : TxQueue) : (s.withQueue x).monitor = s.monitor := rfl
@[simp] theorem State.port_withQueue (s : State) (x : TxQueue) : (s.withQueue x).port = s.port := rfl
@[simp] theorem State.pending_withQueue (s : State) (x : TxQueue) : (s.withQueue x).pending = s.pending := rfl

/-! ### withMember -/

@[simp] theorem State.number_withMember (s : State) (x : Member) : (s.withMember x).number = s.number := rfl
@[simp] theorem State.settings_withMember (s : State) (x : Member) : (s.withMember x).settings = s.settings := rfl
@[simp] theorem State.terms_withMember (s : State) (x : Member) : (s.withMember x).terms = s.terms := rfl
@[simp] theorem State.stopInput_withMember (s : State) (x : Member) : (s.withMember x).stopInput = s.stopInput := rfl
@[simp] theorem State.pool_withMember (s : State) (x : Member) : (s.withMember x).pool = s.pool := rfl
@[simp] theorem State.line_withMember (s : State) (x : Member) : (s.withMember x).line = s.line := rfl
@[simp] theorem State.queue_withMember (s : State) (x : Member) : (s.withMember x).queue = s.queue := rfl
@[simp] theorem State.member_withMember (s : State) (x : Member) : (s.withMember x).member = x := rfl
@[simp] theorem State.chan_withMember (s : State) (x : Member) : (s.withMember x).chan = s.chan := rfl
@[simp] theorem State.probe_withMember (s : State) (x : Member) : (s.withMember x).probe = s.probe := rfl
@[simp] theorem State.monitor_withMember (s : State) (x : Member) : (s.withMember x).monitor = s.monitor := rfl
@[simp] theorem State.port_withMember (s : State) (x : Member) : (s.withMember x).port = s.port := rfl
@[simp] theorem State.pending_withMember (s : State) (x : Member) : (s.withMember x).pending = s.pending := rfl

/-! ### withChan -/

@[simp] theorem State.number_withChan (s : State) (x : ChanCtl) : (s.withChan x).number = s.number := rfl
@[simp] theorem State.settings_withChan (s : State) (x : ChanCtl) : (s.withChan x).settings = s.settings := rfl
@[simp] theorem State.terms_withChan (s : State) (x : ChanCtl) : (s.withChan x).terms = s.terms := rfl
@[simp] theorem State.stopInput_withChan (s : State) (x : ChanCtl) : (s.withChan x).stopInput = s.stopInput := rfl
@[simp] theorem State.pool_withChan (s : State) (x : ChanCtl) : (s.withChan x).pool = s.pool := rfl
@[simp] theorem State.line_withChan (s : State) (x : ChanCtl) : (s.withChan x).line = s.line := rfl
@[simp] theorem State.queue_withChan (s : State) (x : ChanCtl) : (s.withChan x).queue = s.queue := rfl
@[simp] theorem State.member_withChan (s : State) (x : ChanCtl) : (s.withChan x).member = s.member := rfl
@[simp] theorem State.chan_withChan (s : State) (x : ChanCtl) : (s.withChan x).chan = x := rfl
@[simp] theorem State.probe_withChan (s : State) (x : ChanCtl) : (s.withChan x).probe = s.probe := rfl
@[simp] theorem State.monitor_withChan (s : State) (x : ChanCtl) : (s.withChan x).monitor = s.monitor := rfl
@[simp] theorem State.port_withChan (s : State) (x : ChanCtl) : (s.withChan x).port = s.port := rfl
@[simp] theorem State.pending_withChan (s : State) (x : ChanCtl) : (s.withChan x).pending = s.pending := rfl

/-! ### withProbe -/

@[simp] theorem State.number_withProbe (s : State) (x : Probe) : (s.withProbe x).number = s.number := rfl
@[simp] theorem State.settings_withProbe (s : State) (x : Probe) : (s.withProbe x).settings = s.settings := rfl
@[simp] theorem State.terms_withProbe (s : State) (x : Probe) : (s.withProbe x).terms = s.terms := rfl
@[simp] theorem State.stopInput_withProbe (s : State) (x : Probe) : (s.withProbe x).stopInput = s.stopInput := rfl
@[simp] theorem State.pool_withProbe (s : State) (x : Probe) : (s.withProbe x).pool = s.pool := rfl
@[simp] theorem State.line_withProbe (s : State) (x : Probe) : (s.withProbe x).line = s.line := rfl
@[simp] theorem State.queue_withProbe (s : State) (x : Probe) : (s.withProbe x).queue = s.queue := rfl
@[simp] theorem State.member_withProbe (s : State) (x : Probe) : (s.withProbe x).member = s.member := rfl
@[simp] theorem State.chan_withProbe (s : State) (x : Probe) : (s.withProbe x).chan = s.chan := rfl
@[simp] theorem State.probe_withProbe (s : State) (x : Probe) : (s.withProbe x).probe = x := rfl
@[simp] theorem State.monitor_withProbe (s : State) (x : Probe) : (s.withProbe x).monitor = s.monitor := rfl
@[simp] theorem State.port_withProbe (s : State) (x : Probe) : (s.withProbe x).port = s.port := rfl
@[simp] theorem State.pending_withProbe (s : State) (x : Probe) : (s.withProbe x).pending = s.pending := rfl

/-! ### withMonitor -/

@[simp] theorem State.number_withMonitor (s : State) (x : Monitor) : (s.withMonitor x).number = s.number := rfl
@[simp] theorem State.settings_withMonitor (s : State) (x : Monitor) : (s.withMonitor x).settings = s.settings := rfl
@[simp] theorem State.terms_withMonitor (s : State) (x : Monitor) : (s.withMonitor x).terms = s.terms := rfl
@[simp] theorem State.stopInput_withMonitor (s : State) (x : Monitor) : (s.withMonitor x).stopInput = s.stopInput := rfl
@[simp] theorem State.pool_withMonitor (s : State) (x : Monitor) : (s.withMonitor x).pool = s.pool := rfl
@[simp] theorem State.line_withMonitor (s : State) (x : Monitor) : (s.withMonitor x).line = s.line := rfl
@[simp] theorem State.queue_withMonitor (s : State) (x : Monitor) : (s.withMonitor x).queue = s.queue := rfl
@[simp] theorem State.member_withMonitor (s : State) (x : Monitor) : (s.withMonitor x).member = s.member := rfl
@[simp] theorem State.chan_withMonitor (s : State) (x : Monitor) : (s.withMonitor x).chan = s.chan := rfl
@[simp] theorem State.probe_withMonitor (s : State) (x : Monitor) : (s.withMonitor x).probe = s.probe := rfl
@[simp] theorem State.monitor_withMonitor (s : State) (x : Monitor) : (s.withMonitor x).monitor = x := rfl
@[simp] theorem State.port_withMonitor (s : State) (x : Monitor) : (s.withMonitor x).port = s.port := rfl
@[simp] theorem State.pending_withMonitor (s : State) (x : Monitor) : (s.withMonitor x).pending = s.pending := rfl

/-! ### withPort -/

@[simp] theorem State.number_withPort (s : State) (x : Port) : (s.withPort x).number = s.number := rfl
@[simp] theorem State.settings_withPort (s : State) (x : Port) : (s.withPort x).settings = s.settings := rfl
@[simp] theorem State.terms_withPort (s : State) (x : Port) : (s.withPort x).terms = s.terms := rfl
@[simp] theorem State.stopInput_withPort (s : State) (x : Port) : (s.withPort x).stopInput = s.stopInput := rfl
@[simp] theorem State.pool_withPort (s : State) (x : Port) : (s.withPort x).pool = s.pool := rfl
@[simp] theorem State.line_withPort (s : State) (x : Port) : (s.withPort x).line = s.line := rfl
@[simp] theorem State.queue_withPort (s : State) (x : Port) : (s.withPort x).queue = s.queue := rfl
@[simp] theorem State.member_withPort (s : State) (x : Port) : (s.withPort x).member = s.member := rfl
@[simp] theorem State.chan_withPort (s : State) (x : Port) : (s.withPort x).chan = s.chan := rfl
@[simp] theorem State.probe_withPort (s : State) (x : Port) : (s.withPort x).probe = s.probe := rfl
@[simp] theorem State.monitor_withPort (s : State) (x : Port) : (s.withPort x).monitor = s.monitor := rfl
@[simp] theorem State.port_withPort (s : State) (x : Port) : (s.withPort x).port = x := rfl
@[simp] theorem State.pending_withPort (s : State) (x : Port) : (s.withPort x).pending = s.pending := rfl

/-! ### withPending -/

@[simp] theorem State.number_withPending (s : State) (x : List Instr) : (s.withPending x).number = s.number := rfl
@[simp] theorem State.settings_withPending (s : State) (x : List Instr) : (s.withPending x).settings = s.settings := rfl
@[simp] theorem State.terms_withPending (s : State) (x : List Instr) : (s.withPending x).terms = s.terms := rfl
@[simp] theorem State.stopInput_withPending (s : State) (x : List Instr) : (s.withPending x).stopInput = s.stopInput := rfl
@[simp] theorem State.pool_withPending (s : State) (x : List Instr) : (s.withPending x).pool = s.pool := rfl
@[simp] theorem State.line_withPending (s : State) (x : List Instr) : (s.withPending x).line = s.line := rfl
@[simp] theorem State.queue_withPending (s : State) (x : List Instr) : (s.withPending x).queue = s.queue := rfl
@[simp] theorem State.member_withPending (s : State) (x : List Instr) : (s.withPending x).member = s.member := rfl
@[simp] theorem State.chan_withPending (s : State) (x : List Instr) : (s.withPending x).chan = s.chan := rfl
@[simp] theorem State.probe_withPending (s : State) (x : List Instr) : (s.withPending x).probe = s.probe := rfl
@[simp] theorem State.monitor_withPending (s : State) (x : List Instr) : (s.withPending x).monitor = s.monitor := rfl
@[simp] theorem State.port_withPending (s : State) (x : List Instr) : (s.withPending x).port = s.port := rfl
@[simp] theorem State.pending_withPending (s : State) (x : List Instr) : (s.withPending x).pending = x := rfl

/-! ### setChannel -/

@[simp] theorem State.number_setChannel (s : State) (c : ChanNo) (x : Channel) : (s.setChannel c x).number = s.number := rfl
@[simp] theorem State.settings_setChannel (s : State) (c : ChanNo) (x : Channel) : (s.setChannel c x).settings = s.settings := rfl
@[simp] theorem State.terms_setChannel (s : State) (c : ChanNo) (x : Channel) : (s.setChannel c x).terms = s.terms := rfl
@[simp] theorem State.stopInput_setChannel (s : State) (c : ChanNo) (x : Channel) : (s.setChannel c x).stopInput = s.stopInput := rfl
@[simp] theorem State.pool_setChannel (s : State) (c : ChanNo) (x : Channel) : (s.setChannel c x).pool = s.pool := rfl
@[simp] theorem State.line_setChannel (s : State) (c : ChanNo) (x : Channel) : (s.setChannel c x).line = s.line := rfl
@[simp] theorem State.queue_setChannel (s : State) (c : ChanNo) (x : Channel) : (s.setChannel c x).queue = s.queue := rfl
@[simp] theorem State.member_setChannel (s : State) (c : ChanNo) (x : Channel) : (s.setChannel c x).member = s.member := rfl
@[simp] theorem State.chan_setChannel (s : State) (c : ChanNo) (x : Channel) :
    (s.setChannel c x).chan = { s.chan with channels := s.chan.channels.set c x } := rfl
@[simp] theorem State.probe_setChannel (s : State) (c : ChanNo) (x : Channel) : (s.setChannel c x).probe = s.probe := rfl
@[simp] theorem State.monitor_setChannel (s : State) (c : ChanNo) (x : Channel) : (s.setChannel c x).monitor = s.monitor := rfl
@[simp] theorem State.port_setChannel (s : State) (c : ChanNo) (x : Channel) : (s.setChannel c x).port = s.port := rfl
@[simp] theorem State.pending_setChannel (s : State) (c : ChanNo) (x : Channel) : (s.setChannel c x).pending = s.pending := rfl

/-! ### updChannel -/

@[simp] theorem State.number_updChannel (s : State) (c : ChanNo) (f : Channel → Channel) : (s.updChannel c f).number = s.number := rfl
@[simp] theorem State.settings_updChannel (s : State) (c : ChanNo) (f : Channel → Channel) : (s.updChannel c f).settings = s.settings := rfl
@[simp] theorem State.terms_updChannel (s : State) (c : ChanNo) (f : Channel → Channel) : (s.updChannel c f).terms = s.terms := rfl
@[simp] theorem State.stopInput_updChannel (s : State) (c : ChanNo) (f : Channel → Channel) : (s.updChannel c f).stopInput = s.stopInput := rfl
@[simp] theorem State.pool_updChannel (s : State) (c : ChanNo) (f : Channel → Channel) : (s.updChannel c f).pool = s.pool := rfl
@[simp] theorem State.line_updChannel (s : State) (c : ChanNo) (f : Channel → Channel) : (s.updChannel c f).line = s.line := rfl
@[simp] theorem State.queue_updChannel (s : State) (c : ChanNo) (f : Channel → Channel) : (s.updChannel c f).queue = s.queue := rfl
@[simp] theorem State.member_updChannel (s : State) (c : ChanNo) (f : Channel → Channel) : (s.updChannel c f).member = s.member := rfl
@[simp] theorem State.chan_updChannel (s : State) (c : ChanNo) (f : Channel → Channel) :
    (s.updChannel c f).chan = { s.chan with channels := s.chan.channels.set c (f (s.channel c)) } := rfl
@[simp] theorem State.probe_updChannel (s : State) (c : ChanNo) (f : Channel → Channel) : (s.updChannel c f).probe = s.probe := rfl
@[simp] theorem State.monitor_updChannel (s : State) (c : ChanNo) (f : Channel → Channel) : (s.updChannel c f).monitor = s.monitor := rfl
@[simp] theorem State.port_updChannel (s : State) (c : ChanNo) (f : Channel → Channel) : (s.updChannel c f).port = s.port := rfl
@[simp] theorem State.pending_updChannel (s : State) (c : ChanNo) (f : Channel → Channel) : (s.updChannel c f).pending = s.pending := rfl

/-! ### raise -/

@[simp] theorem State.number_raise (s : State) (e : Event) : (s.raise e).number = s.number := rfl
@[simp] theorem State.settings_raise (s : State) (e : Event) : (s.raise e).settings = s.settings := rfl
@[simp] theorem State.terms_raise (s : State) (e : Event) : (s.raise e).terms = s.terms := rfl
@[simp] theorem State.stopInput_raise (s : State) (e : Event) : (s.raise e).stopInput = s.stopInput := rfl
@[simp] theorem State.pool_raise (s : State) (e : Event) : (s.raise e).pool = s.pool := rfl
@[simp] theorem State.line_raise (s : State) (e : Event) : (s.raise e).line = s.line := rfl
@[simp] theorem State.queue_raise (s : State) (e : Event) : (s.raise e).queue = s.queue := rfl
@[simp] theorem State.member_raise (s : State) (e : Event) : (s.raise e).member = s.member := rfl
@[simp] theorem State.chan_raise (s : State) (e : Event) : (s.raise e).chan = s.chan := rfl
@[simp] theorem State.probe_raise (s : State) (e : Event) : (s.raise e).probe = s.probe := rfl
@[simp] theorem State.monitor_raise (s : State) (e : Event) : (s.raise e).monitor = s.monitor := rfl
@[simp] theorem State.port_raise (s : State) (e : Event) :
    (s.raise e).port = { s.port with flags := s.port.flags.set e.number true } := rfl
@[simp] theorem State.pending_raise (s : State) (e : Event) : (s.raise e).pending = s.pending := rfl

/-! ### place -/

@[simp] theorem State.number_place (s : State) (o : Owner) (k : Content) : (s.place o k).number = s.number := rfl
@[simp] theorem State.settings_place (s : State) (o : Owner) (k : Content) : (s.place o k).settings = s.settings := rfl
@[simp] theorem State.terms_place (s : State) (o : Owner) (k : Content) : (s.place o k).terms = s.terms := rfl
@[simp] theorem State.stopInput_place (s : State) (o : Owner) (k : Content) : (s.place o k).stopInput = s.stopInput := rfl
@[simp] theorem State.pool_place (s : State) (o : Owner) (k : Content) : (s.place o k).pool = s.pool := rfl
@[simp] theorem State.line_place (s : State) (o : Owner) (k : Content) : (s.place o k).line = s.line := rfl
@[simp] theorem State.queue_place (s : State) (o : Owner) (k : Content) :
    (s.place o k).queue = s.queue.place o k := rfl
@[simp] theorem State.member_place (s : State) (o : Owner) (k : Content) : (s.place o k).member = s.member := rfl
@[simp] theorem State.chan_place (s : State) (o : Owner) (k : Content) : (s.place o k).chan = s.chan := rfl
@[simp] theorem State.probe_place (s : State) (o : Owner) (k : Content) : (s.place o k).probe = s.probe := rfl
@[simp] theorem State.monitor_place (s : State) (o : Owner) (k : Content) : (s.place o k).monitor = s.monitor := rfl
@[simp] theorem State.port_place (s : State) (o : Owner) (k : Content) : (s.place o k).port = s.port := rfl
@[simp] theorem State.pending_place (s : State) (o : Owner) (k : Content) : (s.place o k).pending = s.pending := rfl

/-! ### rewrite -/

@[simp] theorem State.number_rewrite (s : State) (o : Owner) (k : Content) : (s.rewrite o k).number = s.number := rfl
@[simp] theorem State.settings_rewrite (s : State) (o : Owner) (k : Content) : (s.rewrite o k).settings = s.settings := rfl
@[simp] theorem State.terms_rewrite (s : State) (o : Owner) (k : Content) : (s.rewrite o k).terms = s.terms := rfl
@[simp] theorem State.stopInput_rewrite (s : State) (o : Owner) (k : Content) : (s.rewrite o k).stopInput = s.stopInput := rfl
@[simp] theorem State.pool_rewrite (s : State) (o : Owner) (k : Content) : (s.rewrite o k).pool = s.pool := rfl
@[simp] theorem State.line_rewrite (s : State) (o : Owner) (k : Content) : (s.rewrite o k).line = s.line := rfl
@[simp] theorem State.queue_rewrite (s : State) (o : Owner) (k : Content) :
    (s.rewrite o k).queue = s.queue.rewrite o k := rfl
@[simp] theorem State.member_rewrite (s : State) (o : Owner) (k : Content) : (s.rewrite o k).member = s.member := rfl
@[simp] theorem State.chan_rewrite (s : State) (o : Owner) (k : Content) : (s.rewrite o k).chan = s.chan := rfl
@[simp] theorem State.probe_rewrite (s : State) (o : Owner) (k : Content) : (s.rewrite o k).probe = s.probe := rfl
@[simp] theorem State.monitor_rewrite (s : State) (o : Owner) (k : Content) : (s.rewrite o k).monitor = s.monitor := rfl
@[simp] theorem State.port_rewrite (s : State) (o : Owner) (k : Content) : (s.rewrite o k).port = s.port := rfl
@[simp] theorem State.pending_rewrite (s : State) (o : Owner) (k : Content) : (s.rewrite o k).pending = s.pending := rfl

/-! ### One channel of six -/

@[simp] theorem State.channel_setChannel_self (s : State) (c : ChanNo) (x : Channel) : (s.setChannel c x).channel c = x := by
  simp [State.channel, State.setChannel]

theorem State.channel_setChannel_of_ne (s : State) {c d : ChanNo} (h : d ≠ c) (x : Channel) :
    (s.setChannel c x).channel d = s.channel d := by
  have : (c : Nat) ≠ d := fun e => h (Fin.ext e.symm)
  simp [State.channel, State.setChannel, this]

@[simp] theorem State.channel_updChannel_self (s : State) (c : ChanNo) (f : Channel → Channel) :
    (s.updChannel c f).channel c = f (s.channel c) := by
  simp [State.updChannel]

theorem State.channel_updChannel_of_ne (s : State) {c d : ChanNo} (h : d ≠ c) (f : Channel → Channel) :
    (s.updChannel c f).channel d = s.channel d := by
  simp [State.updChannel, State.channel_setChannel_of_ne s h]

@[simp] theorem State.channel_raise (s : State) (e : Event) (c : ChanNo) : (s.raise e).channel c = s.channel c := rfl

@[simp] theorem State.channel_withQueue (s : State) (q : TxQueue) (c : ChanNo) : (s.withQueue q).channel c = s.channel c := rfl

@[simp] theorem State.channel_withPool (s : State) (p : Pool) (c : ChanNo) : (s.withPool p).channel c = s.channel c := rfl

@[simp] theorem State.channel_withLine (s : State) (l : Line) (c : ChanNo) : (s.withLine l).channel c = s.channel c := rfl

@[simp] theorem State.channel_withMember (s : State) (m : Member) (c : ChanNo) : (s.withMember m).channel c = s.channel c := rfl

@[simp] theorem State.channel_withPort (s : State) (p : Port) (c : ChanNo) : (s.withPort p).channel c = s.channel c := rfl

@[simp] theorem State.channel_withProbe (s : State) (p : Probe) (c : ChanNo) : (s.withProbe p).channel c = s.channel c := rfl

/-! ### Entries removed (R44) -/

/-- All that `dropEntry` can do: it changes the queue, and of the line only the offer. -/
theorem State.dropEntry_frame (s : State) (o : Owner) :
    s.dropEntry o = { s with
      queue := s.queue.removeUnsent o
      line := { s.line with
        offer := if s.line.state = .arbitrating ∧ s.line.offer = some (.entry o) then none else s.line.offer } } := by
  unfold State.dropEntry
  split <;> rename_i h <;> simp [h, State.withQueue, State.withLine]

@[simp] theorem State.channel_dropEntry (s : State) (o : Owner) (c : ChanNo) : (s.dropEntry o).channel c = s.channel c := by
  rw [State.dropEntry_frame]; rfl

@[simp] theorem State.queue_dropEntry (s : State) (o : Owner) : (s.dropEntry o).queue = s.queue.removeUnsent o := by
  rw [State.dropEntry_frame]

@[simp] theorem State.number_dropEntry (s : State) (o : Owner) : (s.dropEntry o).number = s.number := by
  rw [State.dropEntry_frame]

@[simp] theorem State.settings_dropEntry (s : State) (o : Owner) : (s.dropEntry o).settings = s.settings := by
  rw [State.dropEntry_frame]

@[simp] theorem State.terms_dropEntry (s : State) (o : Owner) : (s.dropEntry o).terms = s.terms := by
  rw [State.dropEntry_frame]

@[simp] theorem State.stopInput_dropEntry (s : State) (o : Owner) : (s.dropEntry o).stopInput = s.stopInput := by
  rw [State.dropEntry_frame]

@[simp] theorem State.pool_dropEntry (s : State) (o : Owner) : (s.dropEntry o).pool = s.pool := by
  rw [State.dropEntry_frame]

@[simp] theorem State.member_dropEntry (s : State) (o : Owner) : (s.dropEntry o).member = s.member := by
  rw [State.dropEntry_frame]

@[simp] theorem State.chan_dropEntry (s : State) (o : Owner) : (s.dropEntry o).chan = s.chan := by
  rw [State.dropEntry_frame]

@[simp] theorem State.probe_dropEntry (s : State) (o : Owner) : (s.dropEntry o).probe = s.probe := by
  rw [State.dropEntry_frame]

@[simp] theorem State.monitor_dropEntry (s : State) (o : Owner) : (s.dropEntry o).monitor = s.monitor := by
  rw [State.dropEntry_frame]

@[simp] theorem State.port_dropEntry (s : State) (o : Owner) : (s.dropEntry o).port = s.port := by
  rw [State.dropEntry_frame]

@[simp] theorem State.pending_dropEntry (s : State) (o : Owner) : (s.dropEntry o).pending = s.pending := by
  rw [State.dropEntry_frame]

end Sys2Proof.Machine
end

