-- ==== Sys2Proof/Laws/Channels.lean ====
section
/-! SUPPORT. What the channel controller's operations leave alone, said once for each (spec/06_output_channels.md R112 to R127): the
station number, the settings, the terms, the STOP input, the pool state, the membership, the station monitor, the waiting commands,
and of the line everything but the offer. -/

namespace Sys2Proof.Machine

/-- Between `s` and `t` nothing changed but the transmit queue, the channel controller, the probe unit, the port and the offer. -/
def ChannelWrites (s t : State) : Prop :=
  t.number = s.number ∧ t.settings = s.settings ∧ t.terms = s.terms ∧ t.stopInput = s.stopInput ∧ t.pool = s.pool
    ∧ t.member = s.member ∧ t.monitor = s.monitor ∧ t.pending = s.pending ∧ { t.line with offer := s.line.offer } = s.line

namespace ChannelWrites

theorem refl (s : State) : ChannelWrites s s := ⟨rfl, rfl, rfl, rfl, rfl, rfl, rfl, rfl, rfl⟩

theorem trans {s t u : State} (h1 : ChannelWrites s t) (h2 : ChannelWrites t u) : ChannelWrites s u := by
  obtain ⟨a1, a2, a3, a4, a5, a6, a7, a8, a9⟩ := h1
  obtain ⟨b1, b2, b3, b4, b5, b6, b7, b8, b9⟩ := h2
  refine ⟨b1.trans a1, b2.trans a2, b3.trans a3, b4.trans a4, b5.trans a5, b6.trans a6, b7.trans a7, b8.trans a8, ?_⟩
  rw [← a9, ← b9]

theorem withChan (s : State) (x : ChanCtl) : ChannelWrites s (s.withChan x) := refl s

theorem withProbe (s : State) (x : Probe) : ChannelWrites s (s.withProbe x) := refl s

theorem withQueue (s : State) (x : TxQueue) : ChannelWrites s (s.withQueue x) := refl s

theorem withPort (s : State) (x : Port) : ChannelWrites s (s.withPort x) := refl s

theorem setChannel (s : State) (c : ChanNo) (x : Channel) : ChannelWrites s (s.setChannel c x) := refl s

theorem updChannel (s : State) (c : ChanNo) (f : Channel → Channel) : ChannelWrites s (s.updChannel c f) := refl s

theorem raise (s : State) (e : Event) : ChannelWrites s (s.raise e) := refl s

theorem place (s : State) (o : Owner) (k : Content) : ChannelWrites s (s.place o k) := refl s

theorem rewrite (s : State) (o : Owner) (k : Content) : ChannelWrites s (s.rewrite o k) := refl s

theorem dropEntry (s : State) (o : Owner) : ChannelWrites s (s.dropEntry o) := by
  rw [State.dropEntry_frame]
  exact ⟨rfl, rfl, rfl, rfl, rfl, rfl, rfl, rfl, rfl⟩

theorem foldl {α : Type} {f : State → α → State} (h : ∀ t a, ChannelWrites t (f t a)) (l : List α) (s : State) :
    ChannelWrites s (l.foldl f s) := by
  induction l generalizing s with
  | nil => exact refl s
  | cons a l ih => exact (h s a).trans (ih (f s a))

theorem placeFull (s : State) (c : ChanNo) : ChannelWrites s (Machine.placeFull s c) := refl s

theorem rewriteFull (s : State) (c : ChanNo) : ChannelWrites s (Machine.rewriteFull s c) := refl s

theorem placeWithdraw (s : State) (c : ChanNo) : ChannelWrites s (Machine.placeWithdraw s c) := refl s

theorem placeClaim (s : State) (c : ChanNo) (r : StartRequest) : ChannelWrites s (Machine.placeClaim s c r) := refl s

theorem enterInrush (s : State) (c : ChanNo) : ChannelWrites s (Machine.enterInrush s c) := refl s

theorem startHead (s : State) : ChannelWrites s (Machine.startHead s) := by
  unfold Machine.startHead
  split <;> exact refl s

theorem joinStartQueue (s : State) (c : ChanNo) : ChannelWrites s (Machine.joinStartQueue s c) := by
  unfold Machine.joinStartQueue
  dsimp only
  split
  · exact (withChan s _).trans (startHead _)
  · exact withChan s _

theorem leaveStartQueue (s : State) (c : ChanNo) : ChannelWrites s (Machine.leaveStartQueue s c) := refl s

theorem leaveProbe (s : State) (c : ChanNo) : ChannelWrites s (Machine.leaveProbe s c) := by
  unfold Machine.leaveProbe
  dsimp only
  split <;> exact refl s

theorem joinProbe (s : State) (c : ChanNo) : ChannelWrites s (Machine.joinProbe s c) := by
  unfold Machine.joinProbe
  split <;> exact refl s

theorem stopDriving (s : State) (c : ChanNo) (busy idle : ChState) : ChannelWrites s (Machine.stopDriving s c busy idle) := by
  unfold Machine.stopDriving
  dsimp only
  split <;> split <;> exact refl s

theorem leaveService (s : State) (c : ChanNo) : ChannelWrites s (Machine.leaveService s c) := by
  unfold Machine.leaveService
  dsimp only
  split
  · exact (leaveProbe s c).trans (setChannel _ _ _)
  · split
    · exact refl s
    · exact (dropEntry s _).trans (setChannel _ _ _)
  · exact refl s
  · exact refl s
  · exact refl s
  · exact stopDriving s c _ _
  · exact stopDriving s c _ _
  · exact refl s
  · exact refl s
  · exact refl s
  · exact refl s

theorem writeRecord (s : State) (c : ChanNo) (k : FaultKind) (b : Bool) (v : Nat) (st : ChState) :
    ChannelWrites s (Machine.writeRecord s c k b v st) := by
  unfold Machine.writeRecord
  dsimp only
  split
  · exact refl s
  · split
    · exact refl s
    · split <;> exact refl s

theorem faultChannel (s : State) (c : ChanNo) : ChannelWrites s (Machine.faultChannel s c) :=
  (stopDriving s c _ _).trans (raise _ _)

theorem takeGrant (s : State) (c : ChanNo) (u : Nat) (g : GroupNo) : ChannelWrites s (Machine.takeGrant s c u g) := by
  unfold Machine.takeGrant
  split
  · exact (updChannel s c _).trans (joinStartQueue _ c)
  · exact updChannel s c _

theorem grantedOutcome (s : State) (c : ChanNo) (u : Nat) (g : GroupNo) (b : Bool) :
    ChannelWrites s (Machine.grantedOutcome s c u g b) := by
  unfold Machine.grantedOutcome
  dsimp only
  split
  · split
    · exact takeGrant s c u g
    · exact refl s
  · exact takeGrant s c u g
  · split <;> exact refl s
  · split <;> exact refl s
  · exact refl s

theorem waitingOutcome (s : State) (c : ChanNo) : ChannelWrites s (Machine.waitingOutcome s c) := by
  unfold Machine.waitingOutcome
  dsimp only
  split
  · split <;> exact refl s
  · split <;> exact refl s
  · exact refl s

theorem refusedOutcome (s : State) (c : ChanNo) (r : Reason) : ChannelWrites s (Machine.refusedOutcome s c r) := by
  unfold Machine.refusedOutcome
  dsimp only
  split
  · split <;> exact refl s
  · split <;> exact refl s
  · exact refl s

theorem claimOutcome (s : State) (c : ChanNo) (u : Nat) (g : GroupNo) (v : ClaimVerdict) :
    ChannelWrites s (Machine.claimOutcome s c u g v) := by
  cases v
  · exact grantedOutcome s c u g false
  · exact waitingOutcome s c
  · exact refusedOutcome s c _

theorem grantOutcomes (s : State) (w : List WaitEntry) : ChannelWrites s (Machine.grantOutcomes s w) := by
  induction w generalizing s with
  | nil => exact refl s
  | cons e rest ih =>
    unfold Machine.grantOutcomes
    split
    · exact (grantedOutcome s _ _ _ _).trans (ih _)
    · exact ih s

theorem afterRelease (s : State) (c : ChanNo) : ChannelWrites s (Machine.afterRelease s c) := by
  unfold Machine.afterRelease
  dsimp only
  split
  · split
    · split <;> exact refl s
    · exact refl s
  · split
    · split <;> exact refl s
    · exact refl s
  · exact refl s

theorem releaseOutcome (s : State) (c : ChanNo) (u : Nat) (f : ReleaseForm) :
    ChannelWrites s (Machine.releaseOutcome s c u f) := by
  cases f
  · exact (updChannel s c _).trans (afterRelease _ c)
  · exact (updChannel s c _).trans (afterRelease _ c)
  · exact afterRelease s c

theorem sweepChannel (s : State) (c : ChanNo) (r : Reason) : ChannelWrites s (Machine.sweepChannel s c r) := by
  unfold Machine.sweepChannel
  dsimp only
  split
  · exact refl s
  · exact refl s
  · exact (dropEntry s _).trans (setChannel _ _ _)
  · exact (leaveProbe s c).trans ((setChannel _ _ _).trans (raise _ _))
  · exact (dropEntry s _).trans (setChannel _ _ _)
  all_goals exact (dropEntry s _).trans ((leaveStartQueue _ c).trans ((setChannel _ _ _).trans (raise _ _)))

theorem shedOutcome (s : State) (l : ShedLevel) : ChannelWrites s (Machine.shedOutcome s l) := by
  apply foldl
  intro t c
  unfold Machine.shedChannel
  split
  · exact sweepChannel t c _
  · exact refl t

theorem stoppedOutcome (s : State) (all : Bool) : ChannelWrites s (Machine.stoppedOutcome s all) :=
  (foldl (f := fun t c => Machine.sweepChannel t c .stopped) (fun t c => sweepChannel t c _) allChannels s).trans (withChan _ _)

theorem goOutcome (s : State) (g : GroupNo) : ChannelWrites s (Machine.goOutcome s g) := by
  unfold Machine.goOutcome
  dsimp only
  split
  · split
    · exact (foldl (fun t c => enterInrush t c) _ s).trans (withChan _ _)
    · exact foldl (fun t c => enterInrush t c) _ s
  · exact refl s

theorem settleSpoil (s : State) (c : ChanNo) : ChannelWrites s (Machine.settleSpoil s c) := by
  unfold Machine.settleSpoil
  dsimp only
  split
  · split
    · exact (dropEntry s _).trans (setChannel _ _ _)
    · exact refl s
  · exact refl s

theorem retire (s : State) (r : Reason) : ChannelWrites s (Machine.retire s r) := by
  apply foldl
  intro t c
  unfold Machine.retireChannel
  dsimp only
  split
  · refine trans ?_ ((updChannel _ c _).trans (raise _ _))
    split
    · exact (stopDriving t c _ _).trans (writeRecord _ _ _ _ _ _)
    · exact leaveService t c
  · exact refl t

end ChannelWrites

end Sys2Proof.Machine
end

