-- ==== Sys2Proof/Laws/PerInstr.lean ====
section
/-! SUPPORT. For every command: a well-formed request is read back from the four bytes that send it (spec/09_host_port.md R159). A
command that is no request has no such bytes. -/

namespace Sys2Proof.Laws.RequestRoundTrip

/-- Decoding the code, index and value that send a request gives the request. -/
def Statement (i : Instr) : Prop :=
  i.wellFormed = true → ∀ b ∈ encodeRequest i, decodeRequest b.1 b.2.1 b.2.2 = i

theorem powerOn (pins : PinSample) : Statement (.powerOn pins) := by
  intro _ b hb
  cases hb

theorem pinReset (pins : PinSample) : Statement (.pinReset pins) := by
  intro _ b hb
  cases hb

theorem softReset : Statement (.softReset) := by
  intro _ b hb
  cases hb
  rfl

theorem transactionEnd (edge : CsnEdge) (die : Int) (vs : Nat) : Statement (.transactionEnd edge die vs) := by
  intro _ b hb
  cases hb

theorem unknown (code : Byte) : Statement (.unknown code) := by
  intro h b hb
  cases hb
  unfold decodeRequest
  split <;> first
    | rfl
    | (rename_i e
       exfalso
       revert h
       rw [show code = BitVec.ofNat 8 code.toNat by simp, e]
       decide)

theorem setItem (index : Byte) (value : BitVec 16) : Statement (.setItem index value) := by
  intro _ b hb
  cases hb
  rfl

theorem commit : Statement (.commit) := by
  intro _ b hb
  cases hb
  rfl

theorem start : Statement (.start) := by
  intro _ b hb
  cases hb
  rfl

theorem on (index : Byte) (value : BitVec 16) : Statement (.on index value) := by
  intro _ b hb
  cases hb
  rfl

theorem arm (index : Byte) (value : BitVec 16) : Statement (.arm index value) := by
  intro _ b hb
  cases hb
  rfl

theorem off (index : Byte) : Statement (.off index) := by
  intro _ b hb
  cases hb
  rfl

theorem clearFault (index : Byte) : Statement (.clearFault index) := by
  intro _ b hb
  cases hb
  rfl

theorem go (index : Byte) : Statement (.go index) := by
  intro _ b hb
  cases hb
  rfl

theorem setShed (index : Byte) : Statement (.setShed index) := by
  intro _ b hb
  cases hb
  rfl

theorem poolStop : Statement (.poolStop) := by
  intro _ b hb
  cases hb
  rfl

theorem stationStop (index : Byte) : Statement (.stationStop index) := by
  intro _ b hb
  cases hb
  rfl

theorem stageNoteByte (index : Byte) (value : BitVec 16) : Statement (.stageNoteByte index value) := by
  intro _ b hb
  cases hb
  rfl

theorem sendNote (index : Byte) (value : BitVec 16) : Statement (.sendNote index value) := by
  intro _ b hb
  cases hb
  rfl

theorem readNoteByte (index : Byte) : Statement (.readNoteByte index) := by
  intro _ b hb
  cases hb
  rfl

theorem dropNote : Statement (.dropNote) := by
  intro _ b hb
  cases hb
  rfl

theorem readItem (index : Byte) (value : BitVec 16) : Statement (.readItem index value) := by
  intro _ b hb
  cases hb
  rfl

theorem nextEvent : Statement (.nextEvent) := by
  intro _ b hb
  cases hb
  rfl

theorem setMask (index : Byte) (value : BitVec 16) : Statement (.setMask index value) := by
  intro _ b hb
  cases hb
  rfl

theorem stopInputAssertion : Statement (.stopInputAssertion) := by
  intro _ b hb
  cases hb

theorem idleGap (edge : StartEdge) : Statement (.idleGap edge) := by
  intro _ b hb
  cases hb

theorem firstIdleGap : Statement (.firstIdleGap) := by
  intro _ b hb
  cases hb

theorem arbitrationWon : Statement (.arbitrationWon) := by
  intro _ b hb
  cases hb

theorem readbackFault : Statement (.readbackFault) := by
  intro _ b hb
  cases hb

theorem duplicateCollision (read : Collision) : Statement (.duplicateCollision read) := by
  intro _ b hb
  cases hb

theorem censusAnswerField (sender : StationNo) (header : CensusHeader) : Statement (.censusAnswerField sender header) := by
  intro _ b hb
  cases hb

theorem frameSpoiled : Statement (.frameSpoiled) := by
  intro _ b hb
  cases hb

theorem claim (sender : StationNo) (channel : ChanNo) (cls : PriClass) (units : Nat) (group : GroupNo) (wait : Bool) : Statement (.claim sender channel cls units group wait) := by
  intro _ b hb
  cases hb

theorem release (sender : StationNo) (channel : ChanNo) (cls : PriClass) (units : Nat) (full : Bool) : Statement (.release sender channel cls units full) := by
  intro _ b hb
  cases hb

theorem withdraw (sender : StationNo) (channel : ChanNo) (cls : PriClass) (units : Nat) : Statement (.withdraw sender channel cls units) := by
  intro _ b hb
  cases hb

theorem goApplied (sender : StationNo) (group : GroupNo) : Statement (.goApplied sender group) := by
  intro _ b hb
  cases hb

theorem shedSet (sender : StationNo) (level : ShedLevel) : Statement (.shedSet sender level) := by
  intro _ b hb
  cases hb

theorem shedRaise (sender : StationNo) (prior : ShedLevel) : Statement (.shedRaise sender prior) := by
  intro _ b hb
  cases hb

theorem stopAll (sender : StationNo) : Statement (.stopAll sender) := by
  intro _ b hb
  cases hb

theorem stopStation (sender : StationNo) (target : StationNo) : Statement (.stopStation sender target) := by
  intro _ b hb
  cases hb

theorem note (sender : StationNo) (target : Option StationNo) (data : List Byte) : Statement (.note sender target data) := by
  intro _ b hb
  cases hb

theorem noteHoldExpiry : Statement (.noteHoldExpiry) := by
  intro _ b hb
  cases hb

theorem holdEnd : Statement (.holdEnd) := by
  intro _ b hb
  cases hb

theorem join (sender : StationNo) (terms : Terms) : Statement (.join sender terms) := by
  intro _ b hb
  cases hb

theorem snapshot (sender : StationNo) (terms : Terms) (pool : Pool) : Statement (.snapshot sender terms pool) := by
  intro _ b hb
  cases hb

theorem census (sender : StationNo) (header : CensusHeader) (maps : Maps) : Statement (.census sender header maps) := by
  intro _ b hb
  cases hb

theorem censusTimerExpiry : Statement (.censusTimerExpiry) := by
  intro _ b hb
  cases hb

theorem syncTimerExpiry : Statement (.syncTimerExpiry) := by
  intro _ b hb
  cases hb

theorem silenceTimerExpiry : Statement (.silenceTimerExpiry) := by
  intro _ b hb
  cases hb

theorem rejoinTimerExpiry : Statement (.rejoinTimerExpiry) := by
  intro _ b hb
  cases hb

theorem dataStuck : Statement (.dataStuck) := by
  intro _ b hb
  cases hb

theorem holdStuck : Statement (.holdStuck) := by
  intro _ b hb
  cases hb

theorem stuckExit : Statement (.stuckExit) := by
  intro _ b hb
  cases hb

theorem inrushTimerExpiry (channel : ChanNo) : Statement (.inrushTimerExpiry channel) := by
  intro _ b hb
  cases hb

theorem spacingTimerExpiry : Statement (.spacingTimerExpiry) := by
  intro _ b hb
  cases hb

theorem probeWindowEnd (loadPeriods : Nat) : Statement (.probeWindowEnd loadPeriods) := by
  intro _ b hb
  cases hb

theorem overcurrent (channel : ChanNo) (current : Nat) : Statement (.overcurrent channel current) := by
  intro _ b hb
  cases hb

theorem openLoad (channel : ChanNo) (current : Nat) : Statement (.openLoad channel current) := by
  intro _ b hb
  cases hb

theorem thermalWarning (die : Int) : Statement (.thermalWarning die) := by
  intro _ b hb
  cases hb

theorem thermalShutdown (die : Int) : Statement (.thermalShutdown die) := by
  intro _ b hb
  cases hb

theorem shutdownExit (die : Int) : Statement (.shutdownExit die) := by
  intro _ b hb
  cases hb

theorem lockoutEntry (vs : Nat) : Statement (.lockoutEntry vs) := by
  intro _ b hb
  cases hb

theorem lockoutExit (vs : Nat) : Statement (.lockoutExit vs) := by
  intro _ b hb
  cases hb

theorem sagEpisodeOpen (vs : Nat) : Statement (.sagEpisodeOpen vs) := by
  intro _ b hb
  cases hb

theorem sagEpisodeClose (vs : Nat) : Statement (.sagEpisodeClose vs) := by
  intro _ b hb
  cases hb

theorem stopInputRelease : Statement (.stopInputRelease) := by
  intro _ b hb
  cases hb

theorem stationClockTick : Statement (.stationClockTick) := by
  intro _ b hb
  cases hb

theorem openLoadRearm (channel : ChanNo) (current : Nat) : Statement (.openLoadRearm channel current) := by
  intro _ b hb
  cases hb

theorem currentMeasurement (channel : ChanNo) (current : Nat) : Statement (.currentMeasurement channel current) := by
  intro _ b hb
  cases hb

end Sys2Proof.Laws.RequestRoundTrip
end

