-- ==== Sys2Proof/Laws/Pool.lean ====
section
/-! SUPPORT. What the pool engine's shared operations can do: the pool sum, one class total, and wait-list service
(spec/01_pool_state.md R11, R12; spec/04_claims_releases_and_the_wait_list.md R68). -/

namespace Sys2Proof.Machine

/-! ### Sums -/

theorem sum_map_set {α : Type} (f : α → Nat) (l : List α) (i : Nat) (h : i < l.length) (x : α) :
    ((l.set i x).map f).sum + f l[i] = (l.map f).sum + f x := by
  induction l generalizing i with
  | nil => simp at h
  | cons a l ih =>
    cases i with
    | zero => simp; omega
    | succ i =>
      have := ih i (by simpa using h)
      simp at this ⊢
      omega

theorem rowSum_set (r : Row) (k : PriClass) (v : Nat) :
    rowSum { r with totals := r.totals.set k v } + r.totals[k] = rowSum r + v := by
  have h := sum_map_set (fun x : Nat => x) r.totals.toList k.val (by simp) v
  simpa [rowSum, Vector.toList_set] using h

theorem poolSum_setRow (p : Pool) (n : StationNo) (r : Row) :
    poolSum { p with rows := p.rows.set n r } + rowSum p.rows[n] = poolSum p + rowSum r := by
  have h := sum_map_set rowSum p.rows.toList n.val (by simp) r
  simpa [poolSum, Vector.toList_set] using h

/-- The wait list and the level have no part in the pool sum. -/
theorem poolSum_congr {p q : Pool} (h : p.rows = q.rows) : poolSum p = poolSum q := by
  simp [poolSum, h]

@[simp] theorem poolSum_withWaitList (p : Pool) (w : List WaitEntry) : poolSum { p with waitList := w } = poolSum p :=
  poolSum_congr rfl

@[simp] theorem poolSum_withLevel (p : Pool) (l : ShedLevel) : poolSum { p with level := l } = poolSum p :=
  poolSum_congr rfl

/-- Units added to one class total are added to the pool sum (R60). -/
theorem poolSum_addUnits (p : Pool) (n : StationNo) (k : PriClass) (u : Nat) :
    poolSum (addUnits p n k u) = poolSum p + u := by
  have h1 := poolSum_setRow p n { p.rows[n] with totals := p.rows[n].totals.set k (p.rows[n].totals[k] + u) }
  have h2 := rowSum_set p.rows[n] k (p.rows[n].totals[k] + u)
  have e : addUnits p n k u
      = { p with rows := p.rows.set n { p.rows[n] with totals := p.rows[n].totals.set k (p.rows[n].totals[k] + u) } } := rfl
  dsimp only at e h1 h2
  rw [← e] at h1
  omega

/-- The pool sum falls by what the class total fell (R12). -/
theorem poolSum_subUnits (p : Pool) (n : StationNo) (k : PriClass) (u : Nat) :
    poolSum (subUnits p n k u) + min u p.rows[n].totals[k] = poolSum p := by
  have h1 := poolSum_setRow p n { p.rows[n] with totals := p.rows[n].totals.set k (p.rows[n].totals[k] - u) }
  have h2 := rowSum_set p.rows[n] k (p.rows[n].totals[k] - u)
  have e : subUnits p n k u
      = { p with rows := p.rows.set n { p.rows[n] with totals := p.rows[n].totals.set k (p.rows[n].totals[k] - u) } } := rfl
  dsimp only at e h1 h2
  rw [← e] at h1
  omega

/-! ### What changes nothing but the rows or the list -/

@[simp] theorem waitList_addUnits (p : Pool) (n : StationNo) (k : PriClass) (u : Nat) : (addUnits p n k u).waitList = p.waitList := rfl

@[simp] theorem level_addUnits (p : Pool) (n : StationNo) (k : PriClass) (u : Nat) : (addUnits p n k u).level = p.level := rfl

@[simp] theorem waitList_subUnits (p : Pool) (n : StationNo) (k : PriClass) (u : Nat) : (subUnits p n k u).waitList = p.waitList := rfl

@[simp] theorem level_subUnits (p : Pool) (n : StationNo) (k : PriClass) (u : Nat) : (subUnits p n k u).level = p.level := rfl

@[simp] theorem rows_removeEntry (p : Pool) (n : StationNo) (c : ChanNo) : (removeEntry p n c).rows = p.rows := rfl

@[simp] theorem level_removeEntry (p : Pool) (n : StationNo) (c : ChanNo) : (removeEntry p n c).level = p.level := rfl

@[simp] theorem rows_removeStation (p : Pool) (n : StationNo) : (removeStation p n).rows = p.rows := rfl

@[simp] theorem level_removeStation (p : Pool) (n : StationNo) : (removeStation p n).level = p.level := rfl

@[simp] theorem waitList_mapRows (p : Pool) (f : StationNo → Row → Row) : (mapRows p f).waitList = p.waitList := by
  simp only [mapRows]

@[simp] theorem level_mapRows (p : Pool) (f : StationNo → Row → Row) : (mapRows p f).level = p.level := by
  simp only [mapRows]

@[simp] theorem row_mapRows (p : Pool) (f : StationNo → Row → Row) (n : StationNo) :
    (mapRows p f).rows[n] = f n p.rows[n] := by
  simp [mapRows]

/-- A class total after units are added: the named one rises, the others stay. -/
theorem total_addUnits (p : Pool) (n m : StationNo) (k j : PriClass) (u : Nat) :
    (addUnits p n k u).rows[m].totals[j] = p.rows[m].totals[j] + if m = n ∧ j = k then u else 0 := by
  by_cases hm : m = n
  · subst hm
    by_cases hj : j = k
    · subst hj; simp [addUnits]
    · have : (k : Nat) ≠ j := fun e => hj (Fin.ext e.symm)
      simp [addUnits, hj, this]
  · have : (n : Nat) ≠ m := fun e => hm (Fin.ext e.symm)
    simp [addUnits, hm, this]

/-- Presence and misses after units are added stay. -/
theorem presence_addUnits (p : Pool) (n m : StationNo) (k : PriClass) (u : Nat) :
    (addUnits p n k u).rows[m].present = p.rows[m].present ∧ (addUnits p n k u).rows[m].misses = p.rows[m].misses := by
  by_cases hm : m = n
  · subst hm; simp [addUnits]
  · have : (n : Nat) ≠ m := fun e => hm (Fin.ext e.symm)
    simp [addUnits, this]

/-! ### Wait-list service -/

/-- The entries granted, and then the rest, are the list (R68). -/
theorem serveList_split (limit : Nat) (p : Pool) (w : List WaitEntry) :
    (serveList limit p w).2 ++ (serveList limit p w).1.waitList = w := by
  induction w generalizing p with
  | nil => simp [serveList]
  | cons e rest ih =>
    unfold serveList
    split
    · simp [ih]
    · simp

/-- Service leaves the shed level, presence and misses as they were (R68). -/
theorem serveList_frame (limit : Nat) (p : Pool) (w : List WaitEntry) :
    (serveList limit p w).1.level = p.level
      ∧ ∀ n : StationNo, (serveList limit p w).1.rows[n].present = p.rows[n].present
        ∧ (serveList limit p w).1.rows[n].misses = p.rows[n].misses := by
  induction w generalizing p with
  | nil => simp [serveList]
  | cons e rest ih =>
    unfold serveList
    split
    · obtain ⟨h1, h2⟩ := ih (addUnits p e.station e.cls e.units)
      refine ⟨by simpa using h1, fun n => ?_⟩
      have h3 := presence_addUnits p e.station n e.cls e.units
      exact ⟨(h2 n).1.trans h3.1, (h2 n).2.trans h3.2⟩
    · simp

/-- Service adds what it grants to the pool sum. -/
theorem poolSum_serveList (limit : Nat) (p : Pool) (w : List WaitEntry) :
    poolSum (serveList limit p w).1 = poolSum p + ((serveList limit p w).2.map WaitEntry.units).sum := by
  induction w generalizing p with
  | nil => simp [serveList]
  | cons e rest ih =>
    unfold serveList
    split
    · simp [ih, poolSum_addUnits]; omega
    · simp

/-- Service keeps the pool sum within the limit (R11). -/
theorem poolSum_serveList_le (limit : Nat) (p : Pool) (w : List WaitEntry) (h : poolSum p ≤ limit) :
    poolSum (serveList limit p w).1 ≤ limit := by
  induction w generalizing p with
  | nil => simpa [serveList] using h
  | cons e rest ih =>
    unfold serveList
    split
    · rename_i hfit
      apply ih
      rw [poolSum_addUnits]
      unfold freeUnits at hfit
      omega
    · simpa using h

/-- What service does to one class total: it rises by the units of the entries granted to it. -/
theorem total_serveList (limit : Nat) (p : Pool) (w : List WaitEntry) (n : StationNo) (k : PriClass) :
    (serveList limit p w).1.rows[n].totals[k]
      = p.rows[n].totals[k]
        + (((serveList limit p w).2.filter fun e => decide (n = e.station ∧ k = e.cls)).map WaitEntry.units).sum := by
  induction w generalizing p with
  | nil => simp [serveList]
  | cons e rest ih =>
    unfold serveList
    split
    · have h := ih (addUnits p e.station e.cls e.units)
      rw [total_addUnits] at h
      by_cases he : n = e.station ∧ k = e.cls
      · simp only [he, and_self, decide_true, if_true, List.filter_cons_of_pos, List.map_cons, List.sum_cons] at h ⊢
        omega
      · rw [List.filter_cons_of_neg (by simpa using he)]
        simpa [he] using h
    · simp

end Sys2Proof.Machine
end

