-- ==== Sys2Proof/Laws/Queue.lean ====
section
/-! SUPPORT. What the transmit queue's shared operations can do, each said once (spec/03_the_transmit_queue.md R40 to R46). -/

namespace Sys2Proof.Machine

/-- A placement into an empty slot appends one unsent entry with attempt count 0; a held slot keeps its entry. -/
theorem TxQueue.place_eq (q : TxQueue) (o : Owner) (c : Content) :
    q.place o c = if q.entryOf o = none then { q with entries := q.entries ++ [⟨o, c, 0, false⟩] } else q := by
  unfold TxQueue.place
  cases h : q.entryOf o <;> simp

/-- Every field of the queue but the entries stays at a placement. -/
theorem TxQueue.place_frame (q : TxQueue) (o : Owner) (c : Content) :
    (q.place o c).stop = q.stop ∧ (q.place o c).stopOwed = q.stopOwed ∧ (q.place o c).census = q.census
      ∧ (q.place o c).deferredRaise = q.deferredRaise := by
  rw [TxQueue.place_eq]
  split <;> simp

/-- A rewrite keeps every entry's owner, attempt count, on-line flag and place (R44). -/
theorem TxQueue.rewrite_keeps (q : TxQueue) (o : Owner) (c : Content) :
    (q.rewrite o c).entries.map (fun e => (e.owner, e.attempts, e.onLine))
      = q.entries.map fun e => (e.owner, e.attempts, e.onLine) := by
  simp only [TxQueue.rewrite, List.map_map]
  apply List.map_congr_left
  intro e _
  simp only [Function.comp]
  split <;> rfl

/-- A failed attempt keeps every entry's owner and content (R30, R46). -/
theorem TxQueue.bump_keeps (q : TxQueue) (o : Owner) :
    (q.bump o).entries.map (fun e => (e.owner, e.content)) = q.entries.map fun e => (e.owner, e.content) := by
  simp only [TxQueue.bump, List.map_map]
  apply List.map_congr_left
  intro e _
  simp only [Function.comp]
  split <;> rfl

/-- The win keeps every entry's owner, content and attempt count (R45). -/
theorem TxQueue.markOnLine_keeps (q : TxQueue) (o : Owner) :
    (q.markOnLine o).entries.map (fun e => (e.owner, e.content, e.attempts))
      = q.entries.map fun e => (e.owner, e.content, e.attempts) := by
  simp only [TxQueue.markOnLine, List.map_map]
  apply List.map_congr_left
  intro e _
  simp only [Function.comp]
  split <;> rfl

/-- An entry found in a slot belongs to the slot's owner and is held. -/
theorem TxQueue.entryOf_some {q : TxQueue} {o : Owner} {e : Entry} (h : q.entryOf o = some e) :
    e.owner = o ∧ e ∈ q.entries := by
  refine ⟨?_, List.mem_of_find?_eq_some h⟩
  simpa using List.find?_some h

/-- A slot is empty exactly when no entry held has its owner. -/
theorem TxQueue.entryOf_none {q : TxQueue} {o : Owner} : q.entryOf o = none ↔ ∀ e ∈ q.entries, e.owner ≠ o := by
  simp [TxQueue.entryOf, List.find?_eq_none]

/-- What stays after a removal: every entry of another owner, and the owner's own entry while it is on the line (R44). -/
theorem TxQueue.mem_removeUnsent {q : TxQueue} {o : Owner} {e : Entry} :
    e ∈ (q.removeUnsent o).entries ↔ e ∈ q.entries ∧ (e.owner = o → e.onLine = true) := by
  simp [TxQueue.removeUnsent, List.mem_filter]
  intro _
  by_cases h : e.owner = o <;> simp [h]

/-- What stays after the report of an accepted own frame: the entries not on the line (R46). -/
theorem mem_removeAccepted {q : TxQueue} {e : Entry} :
    e ∈ (removeAccepted q).entries ↔ e ∈ q.entries ∧ e.onLine = false := by
  simp [removeAccepted, List.mem_filter]

/-- The oldest of the lowest rank is held, and no entry has a lower rank (R43). -/
theorem oldestLowest_min {es : List Entry} {e : Entry} (h : oldestLowest es = some e) :
    e ∈ es ∧ ∀ d ∈ es, contentRank e.content ≤ contentRank d.content := by
  induction es generalizing e with
  | nil => simp [oldestLowest] at h
  | cons a rest ih =>
    unfold oldestLowest at h
    cases hr : oldestLowest rest with
    | none =>
      rw [hr] at h
      cases rest with
      | nil => simp at h; subst h; simp
      | cons b l =>
        unfold oldestLowest at hr
        revert hr
        cases oldestLowest l <;> simp
        split <;> simp
    | some b =>
      rw [hr] at h
      obtain ⟨hb, hmin⟩ := ih hr
      simp only at h
      split at h <;> rename_i hlt <;> cases h
      · refine ⟨List.mem_cons_of_mem _ hb, fun d hd => ?_⟩
        rcases List.mem_cons.mp hd with rfl | hd
        · omega
        · exact hmin d hd
      · refine ⟨List.mem_cons_self, fun d hd => ?_⟩
        rcases List.mem_cons.mp hd with rfl | hd
        · exact Nat.le_refl _
        · exact Nat.le_trans (Nat.le_of_not_lt hlt) (hmin d hd)

/-- A sag raise writes the queue alone (R53). -/
theorem sagRaise_frame (s : State) : sagRaise s = { s with queue := (sagRaise s).queue } := by
  unfold sagRaise
  split
  · rfl
  · split
    · rfl
    · split
      · rfl
      · split
        · split <;> rfl
        · rfl

/-- A deferred raise, acted on, writes the queue alone (R53). -/
theorem settleRaise_frame (s : State) : settleRaise s = { s with queue := (settleRaise s).queue } := by
  unfold settleRaise
  split
  · rw [sagRaise_frame]; rfl
  · rfl

/-- The report of an accepted frame writes the queue alone (R46). -/
theorem reportAccepted_frame (own : Bool) (s : State) :
    reportAccepted own s = { s with queue := (reportAccepted own s).queue } := by
  unfold reportAccepted
  split
  · rw [settleRaise_frame]; rfl
  · rfl

/-- A request for the shed slot writes the queue alone (R52). -/
theorem requestShed_frame {s t : State} {l : ShedLevel} (h : requestShed s l = some t) : t = { s with queue := t.queue } := by
  unfold requestShed at h
  split at h
  · cases h; rfl
  · split at h
    · cases h
    · cases h; rfl

end Sys2Proof.Machine
end

