-- ==== Sys2Proof/Laws/Wire.lean ====
section
/-! SUPPORT. What the wire's bit operations, the losses of a frame and CSN's fall can come to, each said once
(spec/02_the_share_line.md R18, R21, R22, R33, R34; spec/09_host_port.md R159). -/

namespace Sys2Proof.Machine

/-! ### The wire -/

/-- A wire is recessive exactly while every output on it is (R18). -/
theorem wireLevel_true {outs : List Bool} : wireLevel outs = true ↔ ∀ o ∈ outs, o = true := by simp [wireLevel]

theorem wireLevel_cons (o : Bool) (outs : List Bool) : wireLevel (o :: outs) = (o && wireLevel outs) := rfl

theorem wireBits_length (n : Nat) (outs : List (List Bool)) : (wireBits n outs).length = n := by simp [wireBits]

theorem natBits_length (n x : Nat) : (natBits n x).length = n := by
  induction n with
  | zero => rfl
  | succ n ih => simp [natBits, ih]

theorem arbitrationBits_length (rank : Nat) (n : StationNo) : (arbitrationBits rank n).length = 9 := by
  simp [arbitrationBits, natBits_length]

/-- A field read back as it was sent is won (R22). -/
theorem readField_self (field : List Bool) : readField field field = .won := by
  induction field with
  | nil => rfl
  | cons b field ih => simp [readField, ih]

/-- The first bit that differs decides: dominant for recessive is a loss, recessive for dominant a fault (R22, R33). -/
theorem readField_ne (sent : Bool) (field rest : List Bool) : readField (sent :: field) ((!sent) :: rest) = if sent then .lost else .fault := by
  cases sent <;> rfl

theorem contend_length (n : Nat) (fields : List (List Bool)) : (contend n fields).length = n := by
  induction n generalizing fields with
  | zero => rfl
  | succ n ih => simp [contend, ih]

theorem mapBits_length (x : BitVec 32) : (mapBits x).length = 32 := by simp [mapBits]

/-! ### The line's events -/

theorem beginFrame_frame (s : State) (c : Carrier) :
    beginFrame s c = { s with line := { s.line with state := .arbitrating, offer := some c, sentRank := offerRank s.queue c } } := rfl

/-- A lost arbitration writes the line alone: the queue keeps what was offered, unsent and with its count (R22). -/
theorem loseArbitration_frame (s : State) :
    loseArbitration s = { s with line := { s.line with state := .receiving, offer := none } } := rfl

/-- A collision writes the line alone, and the station drives SHD no more (R32). -/
theorem stopDrivingFrame_frame (s : State) : stopDrivingFrame s = { s with line := { s.line with collided := true } } := rfl

theorem dataOut_of_collided {s : State} (h : s.line.state = .sending) (c : s.line.collided = true) (t : BitTime) :
    s.dataOut t = true := by
  cases t <;> simp [State.dataOut, h, c]
  split <;> rfl

/-- A station that drives nothing on a wire leaves it to the others (R18). -/
theorem dataLevel_of_free {s : State} {t : BitTime} (h : s.dataOut t = true) (others : List Bool) :
    s.dataLevel others t = wireLevel others := by simp [State.dataLevel, wireLevel_cons, h]

theorem holdLevel_of_free {s : State} (h : s.drivesHold = false) (others : List Bool) :
    s.holdLevel others = wireLevel others := by simp [State.holdLevel, State.holdOut, wireLevel_cons, h]

/-! ### CSN -/

theorem csnFalls_frame (s : State) : csnFalls s = { s with port := { s.port with sampled := some s.summary, reply := none } } := rfl

/-- The summary sampled at CSN's fall is the transaction's (R159). -/
theorem transactionSummary_sampled {s : State} {b : Byte} (h : s.port.sampled = some b) (open_ : s.port.reply = none) :
    s.transactionSummary = b := by simp [State.transactionSummary, h, open_]

/-- SDO is released exactly while CSN is high (R158). -/
theorem sdo_released (s : State) (i : Nat) : s.sdo i = .released ↔ s.csnLow = false := by
  unfold State.sdo
  cases s.csnLow
  · simp
  · cases s.replyBits[i]? <;> simp

end Sys2Proof.Machine
end

