-- ==== Sys2Proof/Tests/Slice0.lean ====
section
/-! SUPPORT. The model's own tests: the well-formedness smoke test, the requests' bytes, one step at a time of the spec's worked
sequences, and for every statement of Certificates/Slice0/Obligations.lean states and operands that meet its hypotheses. -/

namespace Sys2Proof.Tests

open Sys2Proof Sys2Proof.Machine Sys2Proof.Safety Sys2Proof.Obl

/-! ### Small states -/

/-- The state after a command. -/
def after1 (c : Instr) (s : State) : State := match exec c s with | .next t => t | _ => s

/-- The outcome a request is answered with, and its result. -/
def answer (c : Instr) (s : State) : Option (ReqOutcome × Nat) := (after1 c s).port.reply.map fun r => (r.outcome, r.result.toNat)

/-- The outcome a request is answered with. -/
def outcome (c : Instr) (s : State) : Option ReqOutcome := (after1 c s).port.reply.map Reply.outcome

/-- A channel's state, counted units and pending frame. -/
def look (s : State) (c : ChanNo) : ChState × Nat × PendingFrame := ((s.channel c).state, (s.channel c).counted, s.pendingFrame c)

def chanCfg (cls : PriClass) (group : GroupNo) (inrush hold : Nat) : ChanSettings :=
  { resetChanSettings with
    enable := true, cls := cls, group := group, inrush := inrush, hold := hold, inrushTime := 30, currentLimit := 40
    olThreshold := 60, openCount := 900, shortCount := 30000, faultToPin := true }

/-- Station 8 of chapter 11: channel 3 probes, channel 5 is not enabled, channels 0 and 1 are pair-locked. -/
def store : Settings :=
  { poolLimit := 80, censusCode := 20, startSpacing := 50, sagCode := 6, sagShedding := true, autoRejoin := true
    pairLock := #v[true, false, false]
    chans := #v[chanCfg 2 0 15 6, chanCfg 1 0 40 15, chanCfg 1 0 30 10, { chanCfg 3 0 10 10 with probe := true },
      chanCfg 1 2 10 10, { chanCfg 0 0 10 10 with enable := false }] }

def fresh : State := { State.reset with number := 8, settings := store }

def offChan : Channel := { resetChannel with state := .off }

/-- The configuration committed: READY. -/
def ready : State :=
  { fresh with
    terms := some ⟨80, 20⟩
    chan := { resetChanCtl with channels := #v[offChan, offChan, offChan, offChan, offChan, resetChannel] }
    member := { resetMember with station := .ready } }

def presentRow (t : Vector Nat 4) : Row := ⟨true, 0, t⟩

/-- A JOINED station, its line controller IDLE and listening. -/
def joined : State :=
  { ready with
    member := { resetMember with station := .joined, censusTimer := some 200, silenceTimer := some 400 }
    line := { offLine with state := .idle, listening := true }
    pool := { emptyPool with
      rows := (emptyPool.rows.set 3 (presentRow #v[0, 0, 50, 0])).set 8 (presentRow #v[0, 0, 0, 0]) } }

def syncing : State :=
  { ready with
    member := { resetMember with station := .syncing, syncTimer := some 200 }
    line := { offLine with state := .idle, listening := true } }

def joining : State :=
  { ready with
    member := { resetMember with station := .joining }
    line := { offLine with state := .idle, listening := true }
    queue := ⟨[⟨.membership, .join ⟨80, 20⟩, 0, false⟩], none, false, none, false⟩ }

/-- A channel in a state, counting some units. -/
def setCh (s : State) (c : ChanNo) (st : ChState) (u : Nat) : State :=
  { s with chan := { s.chan with channels := s.chan.channels.set c { s.channel c with state := st, counted := u } } }

def setRow (s : State) (n : StationNo) (t : Vector Nat 4) : State :=
  { s with pool := { s.pool with rows := s.pool.rows.set n (presentRow t) } }

def setList (s : State) (l : List WaitEntry) : State := { s with pool := { s.pool with waitList := l } }

def setEntries (s : State) (l : List Entry) : State := { s with queue := { s.queue with entries := l } }

/-- A frame of another station is being received. -/
def hearing (s : State) : State := { s with line := { s.line with state := .receiving } }

/-- The station sends `f`, carried by `c`. -/
def sending (s : State) (f : Frame) (c : Carrier) : State :=
  { s with line := { s.line with state := .sending, ownFrame := some f, offer := some c } }

/-- Some notes received, and some held. -/
def noted (l : List Note) (held : List Note) : State :=
  { joined with port := { joined.port with notes := l }, line := { joined.line with state := .holding, heldNotes := held } }

def oneNote : Note := ⟨3, none, [0xA5, 0x5A]⟩

/-! ### Well-formedness: one ill-formed command for each check -/

theorem test_wellFormed_accepts :
    [Instr.claim 3 0 2 255 15 true, .claim 3 0 2 1 0 false, .release 3 0 2 0 true, .release 3 0 2 255 false, .goApplied 3 1,
      .shedRaise 3 2, .note 3 none [0], .join 3 ⟨1, 5⟩, .join 3 ⟨4095, 255⟩, .unknown 0x00, .powerOn ⟨0, 25, 24000, false, false⟩].all
      Instr.wellFormed = true := by decide

theorem test_wellFormed_refuses_units :
    (Instr.claim 3 0 2 0 0 true).wellFormed = false ∧ (Instr.claim 3 0 2 256 0 true).wellFormed = false
      ∧ (Instr.release 3 0 2 256 true).wellFormed = false ∧ (Instr.withdraw 3 0 2 256).wellFormed = false := by decide

theorem test_wellFormed_refuses_group_level_note :
    (Instr.goApplied 3 0).wellFormed = false ∧ (Instr.shedRaise 3 3).wellFormed = false
      ∧ (Instr.note 3 none []).wellFormed = false ∧ (Instr.note 3 none (List.replicate 17 0)).wellFormed = false := by decide

theorem test_wellFormed_refuses_terms :
    (Instr.join 3 ⟨0, 20⟩).wellFormed = false ∧ (Instr.join 3 ⟨4096, 20⟩).wellFormed = false
      ∧ (Instr.join 3 ⟨80, 4⟩).wellFormed = false ∧ (Instr.join 3 ⟨80, 256⟩).wellFormed = false
      ∧ (Instr.census 3 ⟨.timed, ⟨80, 4⟩, 0⟩ clearMaps).wellFormed = false
      ∧ (Instr.censusAnswerField 3 ⟨.timed, ⟨0, 20⟩, 0⟩).wellFormed = false := by decide

def badRow (r : Row) : Pool := { emptyPool with rows := emptyPool.rows.set 3 r }

theorem test_wellFormed_refuses_snapshot :
    (Instr.snapshot 3 ⟨80, 20⟩ emptyPool).wellFormed = true
      ∧ (Instr.snapshot 3 ⟨0, 20⟩ emptyPool).wellFormed = false
      ∧ (Instr.snapshot 3 ⟨80, 20⟩ (badRow ⟨true, 4, #v[0, 0, 0, 0]⟩)).wellFormed = false
      ∧ (Instr.snapshot 3 ⟨80, 20⟩ (badRow ⟨true, 0, #v[0, 4096, 0, 0]⟩)).wellFormed = false
      ∧ (Instr.snapshot 3 ⟨80, 20⟩ (badRow ⟨false, 1, #v[0, 0, 0, 0]⟩)).wellFormed = false
      ∧ (Instr.snapshot 3 ⟨80, 20⟩ (badRow ⟨false, 0, #v[0, 0, 1, 0]⟩)).wellFormed = false
      ∧ (Instr.snapshot 3 ⟨80, 20⟩ { emptyPool with waitList := [⟨3, 0, 0, 0, 0⟩] }).wellFormed = false
      ∧ (Instr.snapshot 3 ⟨80, 20⟩ { emptyPool with waitList := [⟨3, 0, 0, 256, 0⟩] }).wellFormed = false
      ∧ (Instr.snapshot 3 ⟨80, 20⟩ { emptyPool with waitList := List.replicate 25 ⟨3, 0, 0, 1, 0⟩ }).wellFormed = false := by decide

theorem test_wellFormed_refuses_known_code : (Instr.unknown 0x7F).wellFormed = false := by decide

/-! ### Requests as bytes, and no table words -/

theorem test_decodeTableWord_none : decodeTableWord 8 1 = none := rfl

theorem test_decodeRequest :
    decodeRequest 0x01 0x13 5 = .setItem 0x13 5 ∧ decodeRequest 0x10 1 1 = .on 1 1 ∧ decodeRequest 0x40 0x22 8 = .readItem 0x22 8
      ∧ decodeRequest 0x7F 0 0 = .softReset ∧ decodeRequest 0x04 0 0 = .unknown 0x04 := by decide

/-- ON 1 with the wait flag set, as SDI carries it. -/
def sdiOn : List Bool := bytesBits [0x10, 1, 0, 1]

theorem test_decidedBy :
    decidedBy (sdiOn.take 31) = none ∧ decidedBy sdiOn = some (.on 1 1) ∧ decidedBy (sdiOn ++ sdiOn) = some (.on 1 1)
      ∧ decidedBy ((bytesBits [0x12, 2]).take 12) = none ∧ decidedBy (bytesBits [0x12, 2] ++ [true, false, true, true]) = some (.off 2)
      ∧ decidedBy (bytesBits [0x04, 0]) = some (.unknown 4) ∧ decidedBy (bytesBits [0x01, 0x1B, 0x12, 0x34]) = some (.setItem 0x1B 0x1234)
      ∧ decidedBy [] = none := by decide

theorem test_sdi_bits_most_significant_first :
    decidedBy [false, false, false, true, false, false, true, false, false, false, false, false, false, false, true, true]
      = some (.off 3) := by decide

theorem test_reply_bits :
    (Reply.bits ⟨0x21, .busy, 0x0302⟩).take 16
      = [false, false, true, false, false, false, false, true, false, false, false, false, false, true, false, false] := by decide

theorem test_transaction :
    (joined.withTransaction (bytesBits [0x12, 2]) 25 24000).pending
      = [.transactionEnd .fall 25 24000, .off 2, .transactionEnd (.rise 16) 25 24000] := by decide

/-- SDO: released before CSN's fall and after its rise; the summary's bits before any decision, the outcome's after it. -/
theorem test_sdo :
    let s := after1 (.transactionEnd .fall 25 24000) joined
    let t := after1 (.off 6) s
    joined.sdo 0 = .released ∧ s.sdo 2 = .drives true ∧ s.sdo 3 = .drives false ∧ s.sdo 8 = .unstated
      ∧ t.sdo 2 = .drives true ∧ t.sdo 14 = .drives true ∧ t.sdo 15 = .drives false ∧ t.sdo 32 = .unstated
      ∧ (after1 (.transactionEnd (.rise 20) 25 24000) t).sdo 0 = .released
      ∧ (after1 (.transactionEnd (.rise 4) 25 24000) s).sdo 0 = .released
      ∧ (after1 (.pinReset ⟨8, 25, 24000, false, true⟩) t).sdo 0 = .unstated := by decide

theorem witness_SdoShiftsReply :
    (after1 (.transactionEnd .fall 25 24000) joined).port.sampled = some 0x20
      ∧ (after1 (.transactionEnd .fall 25 24000) joined).port.reply = none
      ∧ (after1 (.pinReset ⟨8, 25, 24000, false, true⟩) joined).port.awaitCsn = true
      ∧ (after1 (.pinReset ⟨8, 25, 24000, false, true⟩) joined).port.sampled = none := by decide

/-- NOTE is raised between CSN's fall and the decision: the reply's summary is the older one, and the next transaction shows it. -/
theorem test_summary_sampled_at_fall :
    let s := after1 (.note 3 none [1]) (hearing (after1 (.transactionEnd .fall 25 24000) joined))
    s.summary = 0x24 ∧ (after1 .nextEvent s).port.reply.map Reply.summary = some 0x20
      ∧ (after1 .nextEvent (after1 .nextEvent s)).port.reply.map Reply.summary = some 0x24 := by decide

/-! ### The wire: the check's known value, the times of R39's table, a frame's bits -/

/-- The check of "123456789" under R13's generator and initial value. -/
theorem test_crc_vector : crc (bytesBits [0x31, 0x32, 0x33, 0x34, 0x35, 0x36, 0x37, 0x38, 0x39]) = 0x29B1 := by decide +kernel

theorem test_frame_times :
    frameTime (.stop none) = 36 ∧ frameTime (.go 1) = 36 ∧ frameTime (.shed .set 1) = 44 ∧ frameTime (.join ⟨80, 20⟩) = 52
      ∧ frameTime (.release 0 0 1 .full) = 60 ∧ frameTime (.claim 0 0 1 0 false) = 68
      ∧ frameTime (.census ⟨.timed, ⟨80, 20⟩, 0⟩) = 205 ∧ frameTime (.note none [0]) = 52
      ∧ frameTime (.note none (List.replicate 16 0)) = 172 := by decide

theorem test_snapshot_times :
    frameTime (.snapshot ⟨80, 20⟩ emptyPool) = 2628
      ∧ frameTime (.snapshot ⟨80, 20⟩ { emptyPool with waitList := List.replicate 24 ⟨7, 2, 1, 40, 0⟩ }) = 3588 := by decide +kernel

theorem test_digest_bytes :
    (poolBytes { emptyPool with waitList := [⟨7, 2, 1, 40, 0⟩, ⟨12, 0, 2, 20, 4⟩] }).length = 332 := by decide +kernel

theorem test_go_bits : (frameBits 3 (.go 2)).take 17
    = [false, true, true, false, false, false, false, true, true, false, false, false, false, false, false, true, false] := by decide

/-- The spec's arbitration example (R22): stations 4 and 2, ranks 7 and 3; station 2's field stands on the wire, and station 4 has lost at
the second rank bit. -/
theorem test_arbitration_example :
    let read := contend 9 [arbitrationBits 7 4, arbitrationBits 3 2]
    read = arbitrationBits 3 2 ∧ readField (arbitrationBits 3 2) read = .won ∧ readField (arbitrationBits 7 4) read = .lost
      ∧ readField (arbitrationBits 7 4) (arbitrationBits 3 2) = .lost ∧ readField (arbitrationBits 3 2) (natBits 9 511) = .fault := by
  decide

/-- Two stations' answers on the wire: station 0 joined, station 31 joined and dissenting; dominant is set (R34). -/
theorem test_answer_field :
    let wire := wireBits 128 [mapsBits ⟨1, 0, 0, 0⟩, mapsBits ⟨0x80000000, 0, 0, 0x80000000⟩]
    readMaps wire = ⟨0x80000001, 0, 0, 0x80000000⟩ ∧ wire.take 3 = [false, true, true] ∧ wire.drop 126 = [true, false] := by decide +kernel

theorem test_census_bits :
    (shdBits 3 (.census ⟨.timed, ⟨80, 20⟩, 0⟩) clearMaps).length = 205 ∧ (shdBits 3 (.go 2) clearMaps).length = 36 := by decide +kernel

/-! ### The worked sequences, one step each, at station 8 (11.1, 11.2) -/

/-- 11.1's start: both CLAIMs queued, station 3 holding 50. -/
def claims : State :=
  setEntries (setCh (setCh joined 1 .claiming 0) 4 .claiming 0)
    [⟨.channel 1, .claim 1 1 40 0 true, 0, true⟩, ⟨.channel 4, .claim 4 1 10 2 true, 0, false⟩]

theorem test_claim_waits :
    let t := after1 (.claim 8 1 1 40 0 true) (sending claims (.claim 1 1 40 0 true) (.entry (.channel 1)))
    look t 1 = (.waiting, 0, .none) ∧ look t 4 = (.claiming, 0, .claim) ∧ t.pool.waitList = [⟨8, 1, 1, 40, 0⟩]
      ∧ poolSum t.pool = 50 ∧ t.line.state = .holding := by decide

/-- Both claims wait behind station 3's units. -/
def bothWait : State := setList (setCh (setCh joined 1 .waiting 0) 4 .waiting 0) [⟨8, 1, 1, 40, 0⟩, ⟨8, 4, 1, 10, 2⟩]

theorem test_release_grants_both_heads :
    let t := after1 (.release 3 0 2 50 true) (hearing bothWait)
    look t 1 = (.inrush, 40, .none) ∧ look t 4 = (.armed, 10, .none) ∧ t.pool.waitList = [] ∧ poolSum t.pool = 50
      ∧ t.chan.spacing = some 50 ∧ t.port.flags[22] = true ∧ t.port.flags[25] = false ∧ t.driven 1 = true := by decide

/-- After the release: channel 1 INRUSH on 40, channel 4 ARMED on 10. -/
def granted : State :=
  let s := setRow (setRow (setCh (setCh joined 1 .inrush 40) 4 .armed 10) 3 #v[0, 0, 0, 0]) 8 #v[0, 50, 0, 0]
  { s with
    chan := { s.chan with
      channels := (s.chan.channels.set 1 { s.channel 1 with inrushTimer := some 300 }).set 4 { s.channel 4 with group := 2 } } }

theorem test_go_starts_armed :
    let t := after1 (.goApplied 3 2) (hearing granted)
    look t 4 = (.inrush, 10, .none) ∧ (t.channel 4).inrushTimer = some 300 ∧ t.chan.spacing = some 50
      ∧ t.port.flags[5] = true ∧ t.port.flags[25] = true ∧ t.pool = granted.pool := by decide

/-- A grant armed in group 7, not the configured 2 (R63, R120); a GO with no channel ARMED in its group restarts the timer (R120). -/
theorem test_go_by_granted_group :
    let s := after1 (.release 3 0 2 50 true) (hearing (setList bothWait [⟨8, 4, 1, 10, 7⟩]))
    look s 4 = (.armed, 10, .none) ∧ look (after1 (.goApplied 3 2) (hearing s)) 4 = (.armed, 10, .none)
      ∧ look (after1 (.goApplied 3 7) (hearing s)) 4 = (.inrush, 10, .none)
      ∧ (after1 (.goApplied 3 2) (hearing s)).chan.spacing = some 50 := by decide

theorem test_inrush_expiry_trims :
    let t := after1 (.inrushTimerExpiry 1) granted
    look t 1 = (.run, 40, .trim) ∧ t.queue.entries = [⟨.channel 1, .release 1 1 25 .trim, 0, false⟩] := by decide

/-- 11.2: channel 1 RUN with its TRIM of 25 queued. -/
def trimming (onLine : Bool) : State :=
  setEntries (setCh granted 1 .run 40) [⟨.channel 1, .release 1 1 25 .trim, 3, onLine⟩]

theorem test_trim_lowers_row :
    let t := after1 (.release 8 1 1 25 false) (sending (trimming true) (.release 1 1 25 .trim) (.entry (.channel 1)))
    look t 1 = (.run, 15, .none) ∧ t.pool.rows[8].totals = #v[0, 25, 0, 0] ∧ t.driven 1 = true := by decide

theorem test_off_in_inrush : look (after1 (.off 1) granted) 1 = (.releasing, 40, .full) := by decide

theorem test_off_rewrites_trim :
    let t := after1 (.off 1) (trimming false)
    look t 1 = (.releasing, 40, .full) ∧ t.queue.entries = [⟨.channel 1, .release 1 1 40 .full, 3, false⟩] := by decide

theorem test_off_on_line_owes_follow_up :
    let t := after1 (.off 1) (sending (trimming true) (.release 1 1 25 .trim) (.entry (.channel 1)))
    look t 1 = (.releasing, 40, .trim) ∧ (t.channel 1).followUp = true := by decide

def owing : State :=
  let s := sending (setCh (trimming true) 1 .releasing 40) (.release 1 1 25 .trim) (.entry (.channel 1))
  { s with chan := { s.chan with channels := s.chan.channels.set 1 { s.channel 1 with followUp := true } } }

theorem test_follow_up_after_trim :
    let t := after1 (.release 8 1 1 25 false) owing
    look t 1 = (.releasing, 15, .full) ∧ t.queue.entries = [⟨.channel 1, .release 1 1 15 .full, 0, false⟩]
      ∧ (t.channel 1).followUp = false := by decide

theorem test_follow_up_after_spoil :
    let t := after1 .frameSpoiled owing
    look t 1 = (.releasing, 40, .full) ∧ t.queue.entries = [⟨.channel 1, .release 1 1 40 .full, 4, false⟩] := by decide

/-! ### 11.3 to 11.5: a joiner, a sag, an overcurrent -/

def busy : State := setList (setCh (setRow (setRow joined 3 #v[0, 0, 0, 20]) 8 #v[0, 25, 0, 0]) 2 .waiting 0) [⟨8, 2, 2, 40, 0⟩]

theorem test_join_makes_row_and_snapshot :
    let t := after1 (.join 12 ⟨80, 20⟩) (hearing busy)
    t.pool.rows[12] = ⟨true, 0, #v[0, 0, 0, 0]⟩ ∧ t.pool.waitList = [⟨8, 2, 2, 40, 0⟩]
      ∧ t.queue.entries = [⟨.membership, .snapshot, 0, false⟩] := by decide

theorem test_snapshot_adopted :
    let p : Pool := { joined.pool with waitList := [⟨3, 0, 1, 40, 0⟩] }
    let t := after1 (.snapshot 3 ⟨80, 20⟩ p) (hearing syncing)
    t.member.station = .joined ∧ t.pool = p ∧ t.port.flags[1] = true ∧ t.member.silenceTimer = some 400 := by decide

/-- 11.4 at the peer: two entries wait, classes 0 and 2. -/
def sagging : State :=
  let s := setRow (setRow joined 3 #v[12, 0, 0, 30]) 8 #v[0, 20, 0, 0]
  setList (setCh s 0 .waiting 0) [⟨3, 2, 0, 20, 0⟩, ⟨8, 0, 2, 15, 0⟩]

theorem test_raise_zeroes_class_without_service :
    let t := after1 (.shedRaise 3 0) (hearing sagging)
    t.pool.level = 1 ∧ t.pool.rows[3].totals = #v[0, 0, 0, 30] ∧ t.pool.waitList = [⟨8, 0, 2, 15, 0⟩]
      ∧ look t 0 = (.waiting, 0, .none) ∧ t.port.flags[4] = true := by decide

theorem test_raise_with_other_prior_ignored :
    let t := after1 (.shedRaise 3 1) (hearing sagging)
    t.pool = sagging.pool ∧ t.port.flags[4] = false := by decide

theorem test_overcurrent_in_inrush :
    let t := after1 (.overcurrent 0 2000) (setRow (setCh joined 0 .inrush 15) 8 #v[0, 0, 15, 0])
    look t 0 = (.faulted, 15, .full) ∧ (t.channel 0).fault = some ⟨.overcurrent, true, 0, 2000, .inrush, false⟩
      ∧ t.port.flags[9] = true ∧ t.port.flags[15] = true ∧ t.faultOutput = true ∧ t.driven 0 = false := by decide

/-! ### The pool engine's example (spec/04) -/

def three : Pool :=
  { emptyPool with
    rows := ((emptyPool.rows.set 1 (presentRow #v[0, 0, 30, 0])).set 6 (presentRow #v[0, 40, 0, 0])).set 20 (presentRow #v[0, 0, 25, 0])
    waitList := [⟨6, 3, 1, 20, 0⟩, ⟨1, 5, 0, 10, 2⟩, ⟨20, 1, 1, 3, 0⟩] }

theorem test_service_grants_three :
    let r := serve 100 (subUnits three 1 2 30)
    r.2 = three.waitList ∧ poolSum r.1 = 98 ∧ r.1.rows[6].totals = #v[0, 60, 0, 0] ∧ r.1.rows[1].totals = #v[10, 0, 0, 0] := by decide

theorem test_service_stops_at_head : (serve 100 three).1 = three := by decide

/-! ### The census (spec/05) -/

theorem test_minority_dissents :
    let t := after1 (.census 1 ⟨.timed, ⟨80, 20⟩, 0⟩ ⟨0x51A, 0, 0, 0x100⟩) (hearing joined)
    t.member.station = .isolated ∧ t.member.reason = .dissent ∧ t.pool = emptyPool ∧ t.member.rejoinTimer = some 400
      ∧ t.port.flags[0] = true := by decide

theorem test_void_census_keeps_copy :
    let t := after1 (.census 1 ⟨.timed, ⟨80, 20⟩, 0⟩ ⟨0x102, 0, 0, 0x100⟩) (hearing { joined with member := { joined.member with censusTimer := none } })
    t.pool = joined.pool ∧ t.member = joined.member := by decide

theorem test_founding :
    let t := after1 (.census 2 ⟨.asked, ⟨80, 20⟩, 0⟩ ⟨0, 0x124, 0, 0⟩) (hearing syncing)
    t.member.station = .joined ∧ t.pool.rows[2].present = true ∧ t.pool.rows[5].present = true ∧ t.pool.rows[8].present = true
      ∧ t.pool.rows[3].present = false := by decide

theorem test_fourth_miss_drops_row :
    let s := { joined with pool := { joined.pool with rows := joined.pool.rows.set 3 ⟨true, 3, #v[0, 0, 50, 0]⟩ } }
    let t := after1 (.census 8 ⟨.timed, ⟨80, 20⟩, 0⟩ ⟨0x100, 0, 0, 0⟩) (hearing s)
    t.pool.rows[3] = ⟨false, 0, #v[0, 0, 0, 0]⟩ ∧ t.pool.rows[8].misses = 0 := by decide

/-! ### Notes held in the hold phase (spec/02) -/

/-- Four notes received, one held since before STUCK, and another NOTE: both are held, the older first; each DROP_NOTE places one, and
each expiry loses one. -/
theorem test_second_note_held :
    let s := after1 (.note 3 none [2]) (hearing (noted (List.replicate 4 oneNote) [⟨3, none, [1]⟩]))
    s.line.heldNotes = [⟨3, none, [1]⟩, ⟨3, none, [2]⟩] ∧ s.drivesHold = true
      ∧ (after1 .dropNote s).port.notes = List.replicate 3 oneNote ++ [⟨3, none, [1]⟩]
      ∧ (after1 .dropNote s).line.heldNotes = [⟨3, none, [2]⟩]
      ∧ (after1 .noteHoldExpiry s).line.heldNotes = [⟨3, none, [2]⟩] ∧ (after1 .noteHoldExpiry s).port.flags[7] = true
      ∧ (after1 .noteHoldExpiry (after1 .noteHoldExpiry s)).drivesHold = false := by decide

/-! ### Probe, record and event examples (spec/07, spec/09) -/

def probing : State :=
  let s := setCh joined 3 .probing 0
  { s with
    probe := ⟨[3], 0, 0⟩
    chan := { s.chan with channels := s.chan.channels.set 3 { s.channel 3 with startReq := some ⟨0, true⟩ } } }

theorem test_probe_passes :
    let t := after1 (.probeWindowEnd 12400) probing
    look t 3 = (.claiming, 0, .claim) ∧ t.queue.entries = [⟨.channel 3, .claim 3 3 10 0 true, 0, false⟩] ∧ t.probe.queue = [] := by
  decide

theorem test_probe_open :
    let t := after1 (.probeWindowEnd 40) probing
    look t 3 = (.faulted, 0, .none) ∧ (t.channel 3).fault = some ⟨.probeOpen, true, 0, 40, .probing, false⟩ ∧ t.port.flags[12] = true
      ∧ t.port.flags[18] = true := by decide

def reported : State := setRow (setCh joined 1 .run 15) 8 #v[0, 15, 0, 0]

theorem test_open_load_reports :
    let t := after1 (.openLoad 1 95) reported
    look t 1 = (.run, 15, .none) ∧ (t.channel 1).fault = some ⟨.openLoad, false, 0, 95, .run, false⟩ ∧ (t.channel 1).olSpent = true
      ∧ t.faultOutput = true := by decide

/-- Three flags pending, and every mask but NOTE_LOST's cleared. -/
def drained : State :=
  let clear : Vector Bool 27 := Vector.replicate 27 false
  { joined with port := { joined.port with flags := ((clear.set 7 true).set 10 true).set 16 true, masks := clear.set 7 true } }

theorem test_next_event_in_order :
    answer .nextEvent drained = some (.accepted, 0x0A) ∧ answer .nextEvent (after1 .nextEvent drained) = some (.accepted, 0x10)
      ∧ (after1 .nextEvent (after1 .nextEvent drained)).attn = false := by decide

theorem test_next_event_none_then_unmasked :
    let s := after1 .nextEvent (after1 .nextEvent drained)
    answer .nextEvent s = some (.accepted, 0xFF) ∧ answer .nextEvent (after1 (.setMask 7 0) s) = some (.accepted, 7) := by decide

/-! ### Request outcomes at the edges of their ranges -/

theorem test_setItem_ranges :
    [(Instr.setItem 0x00 4095, ReqOutcome.accepted), (.setItem 0x00 4096, .range), (.setItem 0x00 0, .range), (.setItem 0x01 5, .accepted),
      (.setItem 0x01 4, .range), (.setItem 0x08 1, .accepted), (.setItem 0x09 0, .range), (.setItem 0x10 1, .accepted),
      (.setItem 0x10 2, .range), (.setItem 0x6C 1, .accepted), (.setItem 0x6D 0, .range), (.setItem 0x70 0, .range),
      (.setItem 0x5B 65535, .accepted)].all (fun x => decide (outcome x.1 fresh = some x.2)) = true
      ∧ outcome (.setItem 0 1) joined = some .state := by decide

theorem test_commit :
    outcome .commit fresh = some .accepted ∧ (after1 .commit fresh).terms = some ⟨80, 20⟩
      ∧ ((after1 .commit fresh).channel 4).state = .off ∧ ((after1 .commit fresh).channel 5).state = .disabled
      ∧ answer .commit State.reset = some (.invalid, 0) ∧ outcome .commit ready = some .state := by decide

theorem test_commit_invalid_index :
    answer .commit (after1 (.setItem 0x24 41) fresh) = some (.invalid, 0x24) := by decide

theorem test_on_outcomes :
    [outcome (.on 6 0) joined, outcome (.on 0 2) joined, outcome (.on 5 0) joined, outcome (.on 0 0) ready,
      outcome (.on 0 0) (setCh joined 0 .run 6), outcome (.arm 0 0) joined, outcome (.on 1 0) (setCh joined 0 .run 6),
      outcome (.on 1 0) { joined with stopInput := true }, outcome (.on 1 0) { joined with pool := { joined.pool with level := 2 } }]
      = [some .range, some .range, some .disabled, some .state, some .state, some .noGroup, some .pair, some .stopped, some .shed] := by
  decide

theorem test_on_hot_supply :
    outcome (.on 2 1) { joined with monitor := { joined.monitor with temperature := .shutdown } } = some .hot
      ∧ outcome (.on 2 1) { joined with monitor := { joined.monitor with supply := .lockout } } = some .supply
      ∧ look (after1 (.on 2 1) joined) 2 = (.claiming, 0, .claim) ∧ look (after1 (.arm 4 0) joined) 4 = (.claiming, 0, .claim)
      ∧ look (after1 (.on 3 0) joined) 3 = (.probing, 0, .none) := by decide

theorem test_pool_request_edges :
    [outcome (.go 0) joined, outcome (.go 15) joined, outcome (.go 16) joined, outcome (.go 1) ready, outcome (.setShed 3) joined,
      outcome (.setShed 4) joined, outcome (.stationStop 31) joined, outcome (.stationStop 32) joined, outcome .poolStop ready,
      outcome .poolStop joined, outcome (.go 1) (after1 (.go 2) joined)]
      = [some .range, some .accepted, some .range, some .state, some .accepted, some .range, some .accepted, some .range, some .state,
        some .accepted, some .busy] := by decide

theorem test_note_request_edges :
    [outcome (.stageNoteByte 15 255) ready, outcome (.stageNoteByte 16 0) ready, outcome (.stageNoteByte 0 256) ready,
      outcome (.sendNote 31 16) joined, outcome (.sendNote 32 1) joined, outcome (.sendNote 254 1) joined,
      outcome (.sendNote 255 1) joined, outcome (.sendNote 0 0) joined, outcome (.sendNote 0 17) joined, outcome (.readNoteByte 0) joined,
      outcome .dropNote joined]
      = [some .accepted, some .range, some .range, some .accepted, some .range, some .range, some .accepted, some .range, some .range,
        some .state, some .state] := by decide

theorem test_off_and_clear_edges :
    [outcome (.off 6) joined, outcome (.off 5) joined, outcome (.off 0) ready, outcome (.clearFault 6) joined,
      outcome (.clearFault 5) joined, outcome (.clearFault 0) joined, outcome .start joined, outcome .start ready,
      outcome (.setMask 26 1) ready, outcome (.setMask 27 0) ready, outcome (.setMask 0 2) ready, outcome (.unknown 0) ready]
      = [some .range, some .disabled, some .accepted, some .range, some .disabled, some .state, some .state, some .accepted,
        some .accepted, some .range, some .range, some .unknown] := by decide

theorem test_read_item_values :
    [answer (.readItem 0x10 99) joined, answer (.readItem 0x14 0) joined, answer (.readItem 0x24 3) joined, answer (.readItem 0x25 31) joined,
      answer (.readItem 0x20 32) joined, answer (.readItem 0x01 6) joined, answer (.readItem 0x2C 0) bothWait,
      answer (.readItem 0x2C 2) bothWait, answer (.readItem 0x00 0) joined, answer (.readItem 0x0C 0) joined, answer (.readItem 0x1A 0) joined]
      = [some (.accepted, 4), some (.accepted, 30), some (.accepted, 50), some (.accepted, 0), some (.range, 0), some (.range, 0),
        some (.accepted, 40), some (.range, 0), some (.range, 0), some (.range, 0), some (.range, 0)] := by decide

theorem test_soft_reset :
    let t := after1 (.transactionEnd (.rise 32) 20 14999) (after1 .softReset drained)
    t.member.station = .ready ∧ t.settings = store ∧ t.terms = some ⟨80, 20⟩ ∧ t.port.masks = drained.port.masks ∧ t.attn = false
      ∧ t.monitor.supply = .lockout ∧ (t.channel 5).state = .disabled ∧ t.pool = emptyPool := by decide

theorem test_transaction_of_31_bits :
    let t := after1 (.transactionEnd (.rise 31) 20 24000) (after1 .softReset joined)
    t.member.station = .joined ∧ t.port.flags[8] = true ∧ t.port.softReset = false := by decide

/-! ### Witnesses: for every statement with hypotheses, states and operands that meet them

A statement's clauses are met one by one, at the ends of their ranges. -/

/-- The edge values of a measured temperature and supply, as a hard and a soft reset judge them. -/
def judged (die : Int) (vs : Nat) : TempState × SupplyState :=
  let m := (after1 (.powerOn ⟨8, die, vs, true, true⟩) joined).monitor
  (m.temperature, m.supply)

theorem witness_StepRunsFrontCommand :
    ({ joined with pending := [.commit, .start] } : State).pending = .commit :: [.start] ∧ joined.pending = [] := ⟨rfl, rfl⟩

theorem witness_EveryCommandCompletes : ∃ t, exec .commit fresh = .next t ∧ t.pending = fresh.pending := ⟨_, rfl, rfl⟩

theorem witness_HardResetHoldsGivenValues :
    judged 150 15000 = (.shutdown, .normal) ∧ judged 149 14999 = (.warning, .lockout) ∧ judged 125 0 = (.warning, .lockout)
      ∧ judged 124 99 = (.normal, .lockout) := by decide

theorem witness_TransactionEndActsByCount :
    let s := after1 .softReset joined
    s.port.awaitCsn = false ∧ s.port.softReset = true ∧ joined.port.softReset = false ∧ (31 : Nat) ≠ 32 ∧ (33 : Nat) ≠ 32
      ∧ (after1 (.pinReset ⟨8, 25, 24000, false, true⟩) joined).port.awaitCsn = true := by decide

theorem witness_HostBitsDecide :
    ([true] : List Bool).length < 16 ∧ (List.replicate 15 false).length < 16 ∧ (0x51 : Byte).toNat ∈ [0x01, 0x10, 0x11, 0x30, 0x31, 0x40, 0x51]
      ∧ (0x7F : Byte).toNat ∉ [0x01, 0x10, 0x11, 0x30, 0x31, 0x40, 0x51] := by decide

theorem witness_UnknownCodeRefused :
    joined.port.awaitCsn = false
      ∧ ∀ code ∈ [(0x00 : Byte), 0x04, 0xFF], ∀ k ∈ [0x01, 0x02, 0x03, 0x10, 0x11, 0x12, 0x13, 0x20, 0x21, 0x22, 0x23, 0x30, 0x31,
        0x32, 0x33, 0x40, 0x50, 0x51, 0x7F], code.toNat ≠ k := by decide

theorem witness_RequestsIgnoredUntilCsnRises :
    isRequest (.on 1 1) ∧ (after1 (.pinReset ⟨8, 25, 24000, false, true⟩) joined).port.awaitCsn = true :=
  ⟨⟨rfl, rfl⟩, by decide⟩

theorem witness_RefusedRequestChangesNothing :
    isRequest (.on 6 0) ∧ joined.port.awaitCsn = false
      ∧ ∃ t r, exec (.on 6 0) joined = .next t ∧ t.port.reply = some r ∧ r.outcome ≠ .accepted ∧ r.outcome ≠ .invalid :=
  ⟨⟨rfl, rfl⟩, rfl, _, _, rfl, rfl, by decide, by decide⟩

theorem witness_RefusedRequestChangesNothing_invalid :
    ∃ t r, exec .commit State.reset = .next t ∧ t.port.reply = some r ∧ r.outcome = .invalid := ⟨_, _, rfl, rfl, by decide⟩

theorem witness_SetItemWritesOneItem :
    fresh.port.awaitCsn = false ∧ fresh.member.station = .unconfigured ∧ joined.member.station ≠ .unconfigured
      ∧ itemRange 0x00 = some (1, 4095) ∧ itemRange 0x08 = some (0, 1) ∧ itemRange 0x09 = none ∧ itemRange 0x10 = some (0, 1)
      ∧ itemRange 0x6C = some (0, 1) ∧ itemRange 0x6D = none ∧ itemRange 0x70 = none ∧ itemRange 0x5B = some (0, 65535) := by decide

theorem witness_CommitChecksThenLoads :
    fresh.port.awaitCsn = false ∧ fresh.member.station = .unconfigured ∧ (∀ x ∈ commitChecks store, x.1 = true)
      ∧ (commitChecks resetSettings).find? (fun x => !x.1) = some (false, 0)
      ∧ (commitChecks (after1 (.setItem 0x24 41) fresh).settings).find? (fun x => !x.1) = some (false, 0x24) := by decide

theorem witness_StartAndRejoinEnterJoining :
    QueueEmptyOffLine ready ∧ ready.port.awaitCsn = false ∧ ready.member.station = .ready ∧ ready.terms = some ⟨80, 20⟩
      ∧ QueueEmptyOffLine joined ∧ joined.member.station ≠ .ready ∧ joined.member.station ≠ .isolated := by decide

def isolated : State := { ready with member := { resetMember with station := .isolated, reason := .silence, rejoinTimer := some 400 } }

theorem witness_StartAndRejoinEnterJoining_isolated :
    QueueEmptyOffLine isolated ∧ isolated.member.station = .isolated ∧ isolated.member.rejoinTimer = some 400
      ∧ isolated.terms = some ⟨80, 20⟩ := by decide

/-! Channel requests -/

theorem witness_OnArmRefusedInOrder :
    joined.port.awaitCsn = false ∧ (6 : Byte).toNat = 6 ∧ (5 : Byte).toNat = (5 : ChanNo).val
      ∧ (startChecks joined 5 false).find? (fun x => x.1) = some (true, .disabled)
      ∧ (startChecks joined 0 true).find? (fun x => x.1) = some (true, .noGroup)
      ∧ (startChecks (setCh joined 0 .run 6) 1 false).find? (fun x => x.1) = some (true, .pair)
      ∧ (∀ x ∈ startChecks joined 4 true, x.1 = false) ∧ (∀ x ∈ startChecks joined 1 false, x.1 = false) := by decide

theorem witness_OnArmTaken :
    joined.port.awaitCsn = false ∧ (∀ x ∈ startChecks joined 4 true, x.1 = false) ∧ channelFits joined 4 ∧ SlotsWellKept joined.queue
      ∧ (joined.cfg 4).group = 2 ∧ (joined.cfg 4).probe = false :=
  ⟨rfl, by decide, ⟨rfl, rfl, rfl⟩, by decide, by decide, by decide⟩

theorem witness_OnArmTaken_probe :
    (∀ x ∈ startChecks joined 3 false, x.1 = false) ∧ channelFits joined 3 ∧ (joined.cfg 3).probe = true :=
  ⟨by decide, ⟨rfl, rfl, rfl⟩, by decide⟩

theorem witness_OffActsByState :
    (6 : Nat) ≤ (6 : Byte).toNat ∧ (5 : Byte).toNat = (5 : ChanNo).val ∧ (joined.channel 5).state = .disabled
      ∧ (joined.channel 0).state ≠ .disabled ∧ channelFits joined 0 ∧ SlotsWellKept joined.queue :=
  ⟨by decide, by decide, by decide, by decide, ⟨rfl, rfl, rfl⟩, by decide⟩

theorem witness_OffActsByState_probing_claiming :
    channelFits probing 3 ∧ (probing.channel 3).state = .probing ∧ channelFits claims 4 ∧ claims.queue.frozen (.channel 4) = false
      ∧ channelFits claims 1 ∧ claims.queue.frozen (.channel 1) = true :=
  ⟨⟨rfl, rfl, rfl⟩, by decide, ⟨rfl, rfl, rfl⟩, by decide, ⟨rfl, rfl, rfl⟩, by decide⟩

def startWaiting : State :=
  let s := setCh joined 0 .startWait 15
  { s with chan := { s.chan with startQueue := [0], spacing := some 50 } }

theorem witness_OffActsByState_on_the_way :
    channelFits bothWait 1 ∧ (bothWait.channel 1).state = .waiting ∧ channelFits granted 4 ∧ (granted.channel 4).state = .armed
      ∧ channelFits startWaiting 0 ∧ (startWaiting.channel 0).state = .startWait ∧ channelFits granted 1
      ∧ (granted.channel 1).state = .inrush :=
  ⟨⟨rfl, rfl, rfl⟩, by decide, ⟨rfl, rfl, rfl⟩, by decide, ⟨rfl, rfl, rfl⟩, by decide, ⟨rfl, rfl, rfl⟩, by decide⟩

theorem witness_OffActsByState_run :
    channelFits reported 1 ∧ reported.pendingFrame 1 = .none ∧ channelFits (trimming false) 1
      ∧ (trimming false).queue.frozen (.channel 1) = false ∧ channelFits (trimming true) 1
      ∧ (trimming true).queue.frozen (.channel 1) = true :=
  ⟨⟨rfl, .inr ⟨rfl, rfl⟩⟩, by decide, ⟨rfl, .inl ⟨rfl, rfl⟩⟩, by decide, ⟨rfl, .inl ⟨rfl, rfl⟩⟩, by decide⟩

/-- Channel 1 FAULTED with a record of some kind, its units given back or its FULL still queued. -/
def faulted (kind : FaultKind) (l : List Entry) (u : Nat) : State :=
  let s := setEntries (setCh joined 1 .faulted u) l
  let r : FaultRecord := ⟨kind, true, 7, 2000, .run, false⟩
  { s with chan := { s.chan with channels := s.chan.channels.set 1 { s.channel 1 with fault := some r } } }

theorem witness_ClearFaultRemovesRecord :
    (joined.channel 0).state ≠ .disabled ∧ (joined.channel 0).fault = none
      ∧ ((faulted .overcurrent [] 0).channel 1).fault = some ⟨.overcurrent, true, 7, 2000, .run, false⟩
      ∧ channelFits (faulted .overcurrent [] 0) 1 ∧ (faulted .overcurrent [] 0).pendingFrame 1 = .none
      ∧ channelFits (faulted .overcurrent [⟨.channel 1, .release 1 1 15 .full, 0, false⟩] 15) 1
      ∧ SlotsWellKept (faulted .overcurrent [⟨.channel 1, .release 1 1 15 .full, 0, false⟩] 15).queue :=
  ⟨by decide, by decide, by decide, .inl ⟨rfl, rfl, rfl⟩, by decide, .inr (.inl ⟨rfl, rfl⟩), by decide⟩

theorem witness_ClearFaultRemovesRecord_hot :
    let s := { faulted .thermal [] 0 with monitor := { joined.monitor with temperature := .shutdown } }
    s.monitor.temperature = .shutdown ∧ (s.channel 1).fault = some ⟨.thermal, true, 7, 2000, .run, false⟩
      ∧ (s.channel 1).state ≠ .disabled := by decide

/-! Pool requests, the STOP input, notes -/

theorem witness_GoAndShedRequestsPlaced :
    joined.port.awaitCsn = false ∧ joined.member.station = .joined ∧ ready.member.station ≠ .joined
      ∧ (∀ e ∈ joined.queue.entries, e.owner ≠ .go ∧ e.owner ≠ .shed) ∧ SlotsWellKept joined.queue
      ∧ (∃ e ∈ (after1 (.go 2) joined).queue.entries, e.owner = .go) ∧ (15 : Byte).toNat = (15 : GroupNo).val
      ∧ 15 < (16 : Byte).toNat ∧ (3 : Byte).toNat = (3 : ShedLevel).val ∧ 3 < (4 : Byte).toNat := by decide

/-- The shed slot taken. -/
def shedding (k : Content) (onLine : Bool) : State := setEntries joined [⟨.shed, k, 2, onLine⟩]

theorem witness_SetShedMeetsSlot :
    (∃ e ∈ (shedding (.shed .set 1) false).queue.entries, e.owner = .shed ∧ e.onLine = false)
      ∧ (∃ e ∈ (shedding (.shed .set 1) true).queue.entries, e.owner = .shed ∧ e.onLine = true)
      ∧ SlotsWellKept (shedding (.shed .set 1) true).queue := by decide

theorem witness_StopRequestsMeetAction :
    joined.port.awaitCsn = false ∧ joined.stopInput = false ∧ joined.member.station = .joined
      ∧ ({ joined with stopInput := true } : State).stopInput = true ∧ ready.stopInput = false ∧ ready.member.station ≠ .joined := by decide

/-- A STOP for one station pending. -/
def stopping (target : Option StationNo) (onLine : Bool) : State :=
  { joined with queue := { joined.queue with stop := some ⟨target, 1, onLine⟩ } }

theorem witness_StationStopMeetsAction :
    31 < (32 : Byte).toNat ∧ (31 : Byte).toNat = (31 : StationNo).val ∧ stopStationMeets (stopping (some 3) false).queue 31 = none
      ∧ stopStationMeets (stopping (some 31) true).queue 31 = some (stopping (some 31) true).queue
      ∧ stopStationMeets (stopping none false).queue 31 = some (stopping none false).queue
      ∧ (stopStationMeets joined.queue 31).isSome = true := by decide

theorem witness_NotesStagedAndSent :
    joined.port.awaitCsn = false ∧ joined.member.station = .joined ∧ ready.member.station ≠ .joined
      ∧ (15 : Byte).toNat = (15 : Fin 16).val ∧ 15 < (16 : Byte).toNat ∧ (255 : BitVec 16).toNat ≤ 255 ∧ 255 < (256 : BitVec 16).toNat
      ∧ targetByte none = 255 ∧ targetByte (some 31) = 31 ∧ (31 < (254 : Byte).toNat ∧ (254 : Byte).toNat ≠ 255)
      ∧ (∀ e ∈ joined.queue.entries, e.owner ≠ .note) ∧ (∃ e ∈ (after1 (.sendNote 3 1) joined).queue.entries, e.owner = .note)
      ∧ (16 : BitVec 16).toNat ≤ 16 ∧ 16 < (17 : BitVec 16).toNat := by decide

theorem witness_NotesReadAndDropped :
    joined.port.notes = [] ∧ (noted [oneNote] []).port.notes = oneNote :: [] ∧ 1 ≤ oneNote.data.length ∧ oneNote.data.length ≤ 16
      ∧ (noted [oneNote] []).line.heldNotes = [] ∧ (noted (List.replicate 4 oneNote) [oneNote]).line.heldNotes = oneNote :: []
      ∧ (1 : Byte).toNat < oneNote.data.length ∧ oneNote.data.length ≤ (2 : Byte).toNat := by decide

theorem test_read_note_byte :
    [answer (.readNoteByte 1) (noted [oneNote] []), answer (.readNoteByte 2) (noted [oneNote] []),
      answer (.readNoteByte 0x10) (noted [oneNote] []), answer (.readNoteByte 0x11) (noted [oneNote] []),
      answer (.readNoteByte 0x12) (noted [oneNote] [])]
      = [some (.accepted, 0x5A), some (.range, 0), some (.accepted, 0x302), some (.accepted, 0xFF), some (.range, 0)] := by decide

theorem witness_ReadItemReturnsItem :
    joined.port.awaitCsn = false ∧ (0x24, 3, 50) ∈ readable joined ∧ (0x25, 31, 0) ∈ readable joined ∧ (0x0B, 5, 0) ∈ readable joined
      ∧ (0x14, 30) ∈ readablePlain joined ∧ (0x3B, 0) ∈ readablePlain joined ∧ (0x37, 0) ∈ readablePlain joined
      ∧ (0x2C, 10) ∈ entryFields ⟨8, 4, 1, 10, 2⟩ ∧ bothWait.pool.waitList.length = 2 := by decide +kernel

theorem witness_ReadItemReturnsItem_none :
    (∀ x ∈ readable joined, ¬ (x.1 = 0x0C ∨ (x.1 = 0x20 ∧ x.2.1 = 32) ∨ (x.1 = 0x01 ∧ x.2.1 = 6)))
      ∧ (∀ x ∈ readablePlain joined, x.1 ≠ 0x0C ∧ x.1 ≠ 0x20 ∧ x.1 ≠ 0x01) ∧ joined.pool.waitList.length ≤ 0 := by decide +kernel

theorem witness_EventsReadAndMasked :
    drained.port.awaitCsn = false ∧ drained.attn = true ∧ joined.attn = false ∧ drained.port.flags[10] = true
      ∧ drained.port.masks[10] = false ∧ (∀ j : Fin 27, j < 10 → drained.port.flags[j] = false ∨ drained.port.masks[j] = true)
      ∧ (26 : Byte).toNat = (26 : Fin 27).val ∧ 26 < (27 : Byte).toNat := by decide

/-! The share line -/

theorem kept_joined : QueueKept joined := ⟨by decide, by decide, by decide⟩
theorem kept_syncing : QueueKept (hearing syncing) := ⟨by decide, by decide, by decide⟩
theorem kept_hearing : QueueKept (hearing joined) := ⟨by decide, by decide, by decide⟩
theorem hears_joined (n : StationNo) (f : Frame) : hears (hearing joined) n f := .inl ⟨rfl, rfl⟩
theorem hears_syncing (n : StationNo) (f : Frame) : hears (hearing syncing) n f := .inl ⟨rfl, rfl⟩

theorem witness_OpportunityOffersLowest :
    joined.line.state = .idle ∧ joined.line.listening = true ∧ joined.queue = emptyQueue
      ∧ IsOffer (stopping none false).queue .stop 0 ∧ IsOffer claims.queue (.entry (.channel 1)) 7 ∧ SlotsWellKept claims.queue
      ∧ IsOffer { joined.queue with census := some ⟨.timed, 0, false⟩ } .census 1 :=
  ⟨rfl, rfl, rfl, .inl ⟨by decide, rfl, rfl⟩, .inr (.inr ⟨rfl, rfl, [], _, _, rfl, rfl, rfl, by decide, by decide⟩), by decide,
    .inr (.inl ⟨rfl, by decide, rfl, rfl⟩)⟩

theorem witness_OpportunityOffersLowest_elsewhere :
    (hearing joined).line.state = .receiving ∧ (hearing joined).line.passive = false
      ∧ (after1 .readbackFault (sending claims (.claim 1 1 40 0 true) (.entry (.channel 1)))).line.passive = true
      ∧ ({ joined with line := { joined.line with listening := false } } : State).line.state = .idle := by decide

/-- A receiver of station 3's census, in its answer field. -/
def answeringPeer : State :=
  { joined with line := { joined.line with state := .answering, answer := some ⟨3, ⟨.timed, ⟨80, 20⟩, 0⟩, true, false, false, true⟩ } }

theorem witness_LinePassagesOutsideOwnFrame :
    joined.line.state = .idle ∧ (noted [] []).line.state = .holding ∧ (noted [] []).line.heldNotes = []
      ∧ (noted [] [oneNote]).line.heldNotes ≠ [] ∧ (after1 .dataStuck joined).line.state = .stuck
      ∧ (hearing joined).line.state = .receiving ∧ (hearing joined).line.state ∈ [LineState.arbitrating, .sending, .receiving, .answering]
      ∧ answeringPeer.line.state = .answering ∧ answeringPeer.line.ownFrame = none := by decide

/-- ARBITRATING with an offer. -/
def offering (s : State) (c : Option Carrier) : State := { s with line := { s.line with state := .arbitrating, offer := c } }

/-- A lower pair, an equal one and a higher one beside the own pair, at both ends of the ranks. -/
theorem witness_LowestPairWinsArbitration :
    let s := { offering claims (some (.entry (.channel 4))) with line := { (offering claims none).line with sentRank := 7 } }
    s.line.sentRank ≤ 8 ∧ s.line.state = .arbitrating ∧ (∀ o ∈ [((0 : Nat), (31 : StationNo)), (8, 0), (7, 8)], o.1 ≤ 8)
      ∧ lowerPair (0, 31) (7, s.number) ∧ lowerPair (7, 7) (7, s.number) ∧ ¬ lowerPair (7, 8) (7, s.number)
      ∧ ¬ lowerPair (8, 0) (7, s.number) :=
  ⟨by decide, rfl, by decide, .inl (by decide), .inr ⟨rfl, by decide⟩, fun h => h.elim (by decide) fun x => absurd x.2 (by decide),
    fun h => h.elim (by decide) fun x => absurd x.1 (by decide)⟩

/-- GO 2 and GO 1 of two stations numbered 8 differ first at the bit of value 2. -/
theorem witness_TwinFrameCarriedUnbroken :
    frameRank (.go 2) = frameRank (.go 1) ∧ frameInRange (.go 1) = true
      ∧ frameBits 8 (.go 2) = (frameBits 8 (.go 1)).take 15 ++ true :: (frameBits 8 (.go 2)).drop 16
      ∧ frameBits 8 (.go 1) = (frameBits 8 (.go 1)).take 15 ++ false :: (frameBits 8 (.go 1)).drop 16 := by decide +kernel

theorem test_lost_arbitration :
    let s := { offering claims (some (.entry (.channel 4))) with line := { (offering claims (some (.entry (.channel 4)))).line with sentRank := 7 } }
    let lost := after1 (s.fieldCommand (contend 9 [arbitrationBits 7 8, arbitrationBits 3 2])) s
    s.fieldCommand (arbitrationBits 7 8) = .arbitrationWon ∧ lost.line.state = .receiving ∧ lost.line.offer = none ∧ lost.queue = s.queue
      ∧ s.dataOut (.field 0) = false ∧ s.dataOut (.field 1) = true ∧ lost.dataOut (.field 2) = true
      ∧ (after1 (.claim 9 0 1 5 0 false) s).line.state = .arbitrating
      ∧ (after1 (.release 9 0 1 5 true) s).line.state = .holding := by decide

theorem witness_WinFreezesOffer :
    let s := offering claims (some (.entry (.channel 4)))
    s.line.state = .arbitrating ∧ s.terms = some ⟨80, 20⟩ ∧ SlotsWellKept s.queue
      ∧ (∃ e ∈ s.queue.entries, s.line.offer = some (.entry e.owner)) ∧ (offering claims none).line.offer = none
      ∧ (offering (stopping none false) (some .stop)).line.offer = some .stop
      ∧ (stopping none false).queue.stop = some ⟨none, 1, false⟩ := by decide

def censusDue : State := { joined with queue := { joined.queue with census := some ⟨.timed, 7, false⟩ } }

theorem witness_WinFreezesOffer_census :
    (offering censusDue (some .census)).line.offer = some .census ∧ censusDue.queue.census = some ⟨.timed, 7, false⟩
      ∧ (offering censusDue (some .census)).terms = some ⟨80, 20⟩ ∧ SlotsWellKept censusDue.queue := by decide

/-- A sender that has collided drives no more (R32). -/
def collided (s : State) : State := after1 (.duplicateCollision .differs) s

/-- A GO entry on the line with a count. -/
def going (n : Nat) : State := sending (setEntries joined [⟨.go, .go 2, n, true⟩]) (.go 2) (.entry .go)

theorem witness_FailedAttemptCounts :
    failsIn (going 6) 0 ∧ failsIn (going 7) 2 ∧ (going 6).participating = true ∧ QueueKept (going 6) ∧ QueueKept (going 7)
      ∧ ⟨.go, .go 2, 6, true⟩ ∈ (going 6).queue.entries ∧ (going 6).line.offer = some (.entry .go) :=
  ⟨.inl ⟨rfl, by decide, by decide⟩, .inl ⟨rfl, by decide, by decide⟩, by decide, ⟨by decide, by decide, by decide⟩, ⟨by decide, by decide, by decide⟩, by decide, rfl⟩

/-- The sender of GO 2 reads a twin's GO 1: it stops driving at the differing bit, and the end of the frame isolates it; a malformed end
counts a failed attempt. -/
theorem test_collision :
    let read := contend 34 [frameBits 8 (.go 2), frameBits 8 (.go 1)]
    let s := going 0
    let t := collided s
    s.frameCommand (.go 2) (read.drop 9) = some (.duplicateCollision .differs) ∧ s.frameCommand (.go 1) (read.drop 9) = none
      ∧ s.frameCommand (.go 2) [true] = some .readbackFault
      ∧ s.dataOut (.body 16) = false ∧ t.dataOut (.body 16) = true ∧ t.dataOut (.slotOne []) = true
      ∧ after1 .readbackFault t = t ∧ after1 (.goApplied 8 2) t = t
      ∧ (after1 (collisionCommand read) t).member.reason = .duplicate
      ∧ (after1 (collisionCommand (read.take 30)) t).queue.entries = [⟨.go, .go 2, 1, false⟩]
      ∧ after1 (collisionCommand read) s = s := by decide +kernel

/-- A line action's frame on the line. -/
def stopOnLine (n : Nat) : State :=
  sending { joined with queue := { joined.queue with stop := some ⟨some 3, n, true⟩, stopOwed := true } } (.stop (some 3)) .stop

def censusOnLine (n : Nat) : State :=
  sending { joined with queue := { joined.queue with census := some ⟨.timed, n, true⟩ } } (.census ⟨.timed, ⟨80, 20⟩, 0⟩) .census

theorem witness_FailedAttemptCounts_actions :
    QueueKept (stopOnLine 6) ∧ QueueKept (stopOnLine 7) ∧ QueueKept (censusOnLine 6) ∧ QueueKept (censusOnLine 7)
      ∧ failsIn (collided (stopOnLine 6)) 1 ∧ QueueKept (collided (stopOnLine 6)) ∧ failsIn (censusOnLine 7) 0 ∧ (stopOnLine 6).queue.stop = some ⟨some 3, 6, true⟩
      ∧ (censusOnLine 7).queue.census = some ⟨.timed, 7, true⟩ :=
  ⟨⟨by decide, by decide, by decide⟩, ⟨by decide, by decide, by decide⟩, ⟨by decide, by decide, by decide⟩,
    ⟨by decide, by decide, by decide⟩, .inl ⟨rfl, by decide, by decide⟩,
    ⟨by decide, by decide, by decide⟩, .inl ⟨rfl, by decide, by decide⟩, rfl, rfl⟩

def owingClaim : State :=
  let s := sending (setCh claims 1 .releasing 0) (.claim 1 1 40 0 true) (.entry (.channel 1))
  { s with chan := { s.chan with channels := s.chan.channels.set 1 { s.channel 1 with followUp := true } } }

theorem witness_SpoilSettlesWhatIsOwed :
    failsIn owingClaim 0 ∧ QueueKept owingClaim ∧ (owingClaim.channel 1).followUp = true ∧ owingClaim.pendingFrame 1 = .claim
      ∧ QueueKept owing ∧ (owing.channel 1).followUp = true ∧ owing.pendingFrame 1 = .trim ∧ owing.participating = true :=
  ⟨.inl ⟨rfl, by decide, by decide⟩, ⟨by decide, by decide, by decide⟩, by decide, by decide, ⟨by decide, by decide, by decide⟩, by decide, by decide, by decide⟩

/-- A SHED on the line with a raise deferred behind it. -/
def deferring (k : Content) (f : Frame) : State :=
  let s := sending (shedding k true) f (.entry .shed)
  { s with queue := { s.queue with deferredRaise := true } }

theorem witness_SpoilSettlesWhatIsOwed_raise :
    QueueKept (deferring (.shed .set 1) (.shed .set 1)) ∧ QueueKept (deferring (.shed .set 0) (.shed .set 0))
      ∧ (deferring (.shed .set 1) (.shed .set 1)).pool.level < 1 ∧ (deferring (.shed .set 0) (.shed .set 0)).line.offer = some (.entry .shed) :=
  ⟨⟨by decide, by decide, by decide⟩, ⟨by decide, by decide, by decide⟩, by decide, rfl⟩

theorem witness_IsolationClearsStation :
    (collided (going 0)).line.state = .sending ∧ (collided (going 0)).line.collided = true ∧ (collided (going 0)).participating = true ∧ joined.member.station = .joined
      ∧ joined.member.silenceTimer = some 400 := by decide

theorem witness_AnswerBitsDecided :
    frameInRange (.census ⟨.timed, ⟨80, 20⟩, 0⟩) = true ∧ hears (hearing joined) 3 (.census ⟨.timed, ⟨80, 20⟩, 0⟩)
      ∧ hears (hearing syncing) 3 (.census ⟨.timed, ⟨80, 20⟩, 0⟩)
      ∧ sends (censusOnLine 0) 8 (.census ⟨.timed, ⟨80, 20⟩, 0⟩) := ⟨by decide, (hears_joined _ _), (hears_syncing _ _), rfl, rfl, rfl, rfl⟩

/-! The pool engine and the accepted frames -/

theorem witness_ServiceGrantsHeadsThatFit :
    (serve 100 (subUnits three 1 2 30)).2 = [] ++ ⟨6, 3, 1, 20, 0⟩ :: [⟨1, 5, 0, 10, 2⟩, ⟨20, 1, 1, 3, 0⟩]
      ∧ (serve 100 three).1.waitList = ⟨6, 3, 1, 20, 0⟩ :: [⟨1, 5, 0, 10, 2⟩, ⟨20, 1, 1, 3, 0⟩] := by decide

theorem witness_ClassTotalsMoveExactly : (8 : StationNo) ≠ 3 ∧ (1 : PriClass) ≠ 2 := by decide

theorem witness_FramesIgnoredUnlessJoined :
    frameOf (.stopAll 3) = some (3, .stop none) ∧ frameInRange (.stop none) = true ∧ frameRank (.stop none) ∉ [1, 4, 5]
      ∧ (hearing syncing).member.station ≠ .joined ∧ hears (hearing syncing) 3 (.stop none) :=
  ⟨rfl, rfl, by decide, by decide, (hears_syncing _ _)⟩

theorem kept_hear (s : State) (h : s.queue = emptyQueue) (hl : s.line = (hearing joined).line) : QueueKept s := by
  refine ⟨?_, ?_, ?_⟩
  · rw [h]; decide
  · unfold OnLineCarried; rw [h, hl]; decide
  · rw [h]; decide

theorem witness_ClaimAppliedByTable :
    applies false (hearing joined) 3 (.claim 0 1 30 0 true) (.channel 0) ∧ (3 : StationNo) ≠ joined.number
      ∧ HeadStarted (hearing joined) ∧ isStale joined.pool 3 0 = false :=
  ⟨⟨rfl, by decide, kept_hearing, (hears_joined _ _)⟩, by decide, fun _ _ => rfl, rfl⟩

/-- A lost arbitration is one to a lower pair (log 3). -/
theorem witness_hears_lost :
    let s := { offering joined none with line := { (offering joined none).line with sentRank := 7 } }
    hears s 9 (.release 0 1 5 .full) ∧ hears s 7 (.claim 0 1 5 0 false) ∧ ¬ hears s 9 (.claim 0 1 5 0 false) :=
  ⟨.inr (.inl ⟨rfl, by decide⟩), .inr (.inl ⟨rfl, by decide⟩),
    fun h => h.elim (fun x => absurd x.1 (by decide)) fun y => y.elim (fun x => absurd x.2 (by decide)) fun x => absurd x.1 (by decide)⟩

/-- R63's example, with this station's entry behind the stale one: it is granted. -/
def staleAhead : State := hearing (setList (setCh (setRow joined 3 #v[0, 0, 70, 0]) 0 .waiting 0) [⟨3, 1, 2, 40, 0⟩, ⟨8, 0, 2, 5, 0⟩])

theorem witness_ClaimAppliedByTable_stale :
    applies false staleAhead 3 (.claim 1 2 40 0 true) (.channel 1) ∧ isStale staleAhead.pool 3 1 = true ∧ HeadStarted staleAhead
      ∧ (claimServed staleAhead.limit staleAhead.pool 3 1 2 40 0 true).2 = [⟨8, 0, 2, 5, 0⟩] :=
  ⟨⟨rfl, by decide, kept_hear _ rfl rfl, .inl ⟨rfl, rfl⟩⟩, by decide, fun _ _ => rfl, by decide⟩

/-- The station's own CLAIM of channel 1 on the line, in a pool of three cases: room, no room, the wait flag clear. -/
def claiming (held : Nat) (w : Bool) : State :=
  setRow (sending (setEntries (setCh joined 1 .claiming 0) [⟨.channel 1, .claim 1 1 40 0 w, 0, true⟩]) (.claim 1 1 40 0 w)
    (.entry (.channel 1))) 3 #v[0, 0, held, 0]

theorem applies_claiming (held : Nat) (w : Bool) : applies true (claiming held w) 8 (.claim 1 1 40 0 w) (.channel 1) :=
  ⟨rfl, rfl, ⟨by cases w <;> first | exact (by decide : SlotsWellKept (claiming 0 true).queue) | exact (by decide : SlotsWellKept (claiming 0 false).queue),
    by cases w <;> first | exact (by decide : OnLineCarried (claiming 0 true)) | exact (by decide : OnLineCarried (claiming 0 false)),
    (by decide : OwedBehindLine joined.queue)⟩, ⟨rfl, rfl, rfl, rfl⟩, _, List.mem_singleton.mpr rfl, rfl, rfl⟩

theorem witness_OwnClaimOutcomes :
    (∀ held w, applies true (claiming held w) 8 (.claim 1 1 40 0 w) (.channel 1)) ∧ ((claiming 40 true).channel 1).state = .claiming
      ∧ isStale (claiming 40 true).pool 8 1 = false ∧ HeadStarted (claiming 40 true) ∧ poolSum (claiming 40 true).pool = 40
      ∧ poolSum (claiming 41 false).pool = 41 :=
  ⟨applies_claiming, rfl, rfl, fun _ _ => rfl, by decide, by decide⟩

theorem witness_OwnClaimSettlesFollowUp :
    applies true owingClaim 8 (.claim 1 1 40 0 true) (.channel 1) ∧ (owingClaim.channel 1).state = .releasing
      ∧ (owingClaim.channel 1).followUp = true ∧ HeadStarted owingClaim :=
  ⟨⟨rfl, rfl, ⟨by decide, by decide, by decide⟩, ⟨rfl, rfl, rfl, rfl⟩, _, List.mem_cons_self, rfl, rfl⟩, rfl, rfl, fun _ _ => rfl⟩

theorem witness_ReleaseAppliedThenService :
    applies false (hearing joined) 3 (.release 0 2 50 .full) (.channel 0) ∧ applies false (hearing bothWait) 3 (.release 0 2 50 .trim) (.channel 0)
      ∧ applies false (hearing bothWait) 3 (.release 0 2 0 .withdraw) (.channel 0) ∧ HeadStarted (hearing bothWait) :=
  ⟨⟨rfl, rfl, kept_hearing, (hears_joined _ _)⟩, ⟨rfl, rfl, kept_hear _ rfl rfl, .inl ⟨rfl, rfl⟩⟩,
    ⟨rfl, rfl, kept_hear _ rfl rfl, .inl ⟨rfl, rfl⟩⟩, fun _ _ => rfl⟩

/-- The station's own RELEASE of channel 1 on the line. -/
def releasing (form : ReleaseForm) (u : Nat) (st : ChState) (counted : Nat) : State :=
  setRow (sending (setEntries (setCh joined 1 st counted) [⟨.channel 1, .release 1 1 u form, 0, true⟩]) (.release 1 1 u form)
    (.entry (.channel 1))) 8 #v[0, counted, 0, 0]

theorem applies_releasing (form : ReleaseForm) (u : Nat) (st : ChState) (counted : Nat) (h : u ≤ 255) :
    applies true (releasing form u st counted) 8 (.release 1 1 u form) (.channel 1) := by
  refine ⟨rfl, ?_, ⟨?_, ?_, ?_⟩, ⟨rfl, rfl, rfl, rfl⟩, _, List.mem_singleton.mpr rfl, rfl, rfl⟩
  · simp [frameInRange, h]
  · simp [SlotsWellKept, releasing, setRow, sending, setEntries, setCh, joined, ready, fresh, State.reset, contentOwner, emptyQueue]
  · simp [OnLineCarried, releasing, setRow, sending, setEntries, setCh, joined, ready, fresh, State.reset, emptyQueue]
  · simp [OwedBehindLine, releasing, setRow, sending, setEntries, setCh, joined, ready, fresh, State.reset, emptyQueue]

theorem witness_OwnReleaseLowersChannel :
    applies true (releasing .trim 25 .run 40) 8 (.release 1 1 25 .trim) (.channel 1)
      ∧ applies true (releasing .full 40 .releasing 40) 8 (.release 1 1 40 .full) (.channel 1)
      ∧ applies true (releasing .trim 25 .faulted 40) 8 (.release 1 1 25 .trim) (.channel 1)
      ∧ applies true (releasing .withdraw 0 .releasing 0) 8 (.release 1 1 0 .withdraw) (.channel 1)
      ∧ ((releasing .full 40 .releasing 40).channel 1).counted ≤ 40 ∧ 25 < ((releasing .trim 25 .faulted 40).channel 1).counted
      ∧ HeadStarted (releasing .full 40 .releasing 40) :=
  ⟨applies_releasing _ _ _ _ (by decide), applies_releasing _ _ _ _ (by decide), applies_releasing _ _ _ _ (by decide),
    applies_releasing _ _ _ _ (by decide), by decide, by decide, fun _ _ => rfl⟩

/-- R67's order: the own FULL is applied first, and the grants that it lets follow reach the own entries behind it. -/
theorem test_own_release_then_own_grants :
    let s := setList (setCh (setCh (releasing .full 40 .releasing 40) 0 .waiting 0) 4 .waiting 0) [⟨8, 0, 2, 15, 0⟩, ⟨8, 4, 1, 10, 2⟩]
    let t := after1 (.release 8 1 1 40 true) s
    look t 1 = (.off, 0, .none) ∧ look t 0 = (.inrush, 15, .none) ∧ look t 4 = (.armed, 10, .none) ∧ (t.channel 4).group = 2 := by decide

/-- Station 3's FULL frees four own entries: two of group 0, one ARMED, one withdrawn meanwhile. -/
def fourWait (spacing : Option Nat) : State :=
  let s := setCh (setCh (setCh (setCh joined 0 .waiting 0) 1 .waiting 0) 4 .waiting 0) 2 .releasing 0
  let l := setList s [⟨8, 1, 1, 20, 0⟩, ⟨8, 0, 2, 15, 0⟩, ⟨8, 2, 1, 30, 0⟩, ⟨8, 4, 1, 10, 2⟩]
  hearing (setEntries { l with chan := { l.chan with spacing := spacing } } [⟨.channel 2, .release 2 1 0 .withdraw, 0, false⟩])

theorem witness_WaitListGrantReachesChannel :
    let s := fourWait none
    let own := (releaseServed s.limit s.pool 3 0 2 50 .full).2.filter fun e => decide (e.station = s.number)
    applies false s 3 (.release 0 2 50 .full) (.channel 0) ∧ (3 : StationNo) ≠ s.number ∧ HeadStarted s ∧ own = s.pool.waitList
      ∧ (own.map WaitEntry.channel).Nodup ∧ s.chan.spacing = none ∧ s.chan.latch = false ∧ 0 < s.settings.startSpacing
      ∧ s.pendingFrame 2 = .withdraw ∧ (fourWait (some 50)).chan.spacing ≠ none
      ∧ ({ fourWait none with settings := { store with startSpacing := 0 } } : State).settings.startSpacing = 0 :=
  ⟨⟨rfl, rfl, ⟨by decide, by decide, by decide⟩, .inl ⟨rfl, rfl⟩⟩, by decide, fun _ _ => rfl, by decide, by decide, rfl, rfl, by decide, rfl,
    by decide, rfl⟩

theorem test_several_grants :
    let t := after1 (.release 3 0 2 50 true) (fourWait none)
    look t 1 = (.inrush, 20, .none) ∧ look t 0 = (.startWait, 15, .none) ∧ look t 2 = (.releasing, 30, .full)
      ∧ look t 4 = (.armed, 10, .none) ∧ t.chan.startQueue = [0] ∧ t.chan.spacing = some 50 ∧ t.pool.waitList = [] := by decide

theorem witness_GoStartsArmedChannels :
    applies false (hearing granted) 3 (.go 2) .go ∧ applies true (going 0) 8 (.go 2) .go
      ∧ applies false (hearing joined) 3 (.go 15) .go :=
  ⟨⟨rfl, rfl, kept_hear _ rfl rfl, .inl ⟨rfl, rfl⟩⟩,
    ⟨rfl, rfl, ⟨by decide, by decide, by decide⟩, ⟨rfl, rfl, rfl, rfl⟩, _, List.mem_cons_self, rfl, rfl⟩, ⟨rfl, rfl, kept_hearing, (hears_joined _ _)⟩⟩

theorem fit_joined (s : State) (h : s.chan = joined.chan) (hq : ∀ c, s.pendingFrame c = .none) (hp : s.probe = joined.probe) :
    ChannelsFit s := by
  refine ⟨?_, ?_, ?_⟩
  · intro c
    have e : s.channel c = joined.channel c := by simp only [State.channel, h]
    unfold channelFits
    simp only [e]
    fin_cases c <;> exact ⟨rfl, hq _, rfl⟩
  · unfold StartQueueExact State.channel; rw [h]; decide
  · unfold ProbeQueueExact State.channel; rw [h, hp]; decide

theorem witness_ShedRaisesLevel :
    applies false (hearing joined) 3 (.shed .set 3) .shed ∧ applies false (hearing joined) 3 (.shed .raise 0) .shed
      ∧ ChannelsFit (hearing joined) ∧ joined.pool.level < 1 :=
  ⟨⟨rfl, rfl, kept_hearing, (hears_joined _ _)⟩, ⟨rfl, rfl, kept_hearing, (hears_joined _ _)⟩, fit_joined _ rfl (by decide) rfl, by decide⟩

theorem witness_ShedRaisesLevel_own :
    let s := deferring (.shed .set 1) (.shed .set 1)
    applies true s 8 (.shed .set 1) .shed ∧ s.queue.deferredRaise = true ∧ ChannelsFit s ∧ s.pool.level < 1 :=
  ⟨⟨rfl, rfl, ⟨by decide, by decide, by decide⟩, ⟨rfl, rfl, rfl, rfl⟩, _, List.mem_cons_self, rfl, rfl⟩, rfl, fit_joined _ rfl (by decide) rfl, by decide⟩

/-- R53's example: the own SET 1 on the line at level 0, a raise deferred behind it; its acceptance places a RAISE with prior 1. -/
theorem test_deferred_raise_example :
    let t := after1 (.shedSet 8 1) (deferring (.shed .set 1) (.shed .set 1))
    t.pool.level = 1 ∧ t.queue.entries = [⟨.shed, .shed .raise 1, 0, false⟩] ∧ t.queue.deferredRaise = false
      ∧ (after1 (.shedSet 8 3) (deferring (.shed .set 3) (.shed .set 3))).queue.entries = [] := by decide

theorem witness_ShedKeepsLowersOrDefers :
    applies false (hearing joined) 3 (.shed .set 0) .shed ∧ (0 : ShedLevel) ≤ joined.pool.level
      ∧ applies false (hearing joined) 3 (.shed .raise 1) .shed ∧ (1 : ShedLevel) ≠ joined.pool.level
      ∧ HeadStarted (hearing joined)
      ∧ applies true (deferring (.shed .raise 0) (.shed .raise 0)) 8 (.shed .raise 0) .shed
      ∧ applies true (deferring (.shed .set 0) (.shed .set 0)) 8 (.shed .set 0) .shed
      ∧ ChannelsFit (deferring (.shed .set 0) (.shed .set 0))
      ∧ (deferring (.shed .set 0) (.shed .set 0)).queue.deferredRaise = true :=
  ⟨⟨rfl, rfl, kept_hearing, (hears_joined _ _)⟩, by decide, ⟨rfl, rfl, kept_hearing, (hears_joined _ _)⟩, by decide, fun _ _ => rfl,
    ⟨rfl, rfl, ⟨by decide, by decide, by decide⟩, ⟨rfl, rfl, rfl, rfl⟩, _, List.mem_cons_self, rfl, rfl⟩,
    ⟨rfl, rfl, ⟨by decide, by decide, by decide⟩, ⟨rfl, rfl, rfl, rfl⟩, _, List.mem_cons_self, rfl, rfl⟩, fit_joined _ rfl (by decide) rfl, rfl⟩

theorem witness_StopEmptiesRows :
    (hearing joined).member.station = .joined ∧ QueueKept (hearing joined) ∧ ChannelsFit (hearing joined) ∧ HeadStarted (hearing joined)
      ∧ hears (hearing joined) 3 (.stop none) ∧ (31 : StationNo) ≠ joined.number
      ∧ sends (stopOnLine 0) 8 (.stop (some 3)) ∧ (stopOnLine 0).queue.stop.any (fun a => a.onLine) = true ∧ QueueKept (stopOnLine 0)
      ∧ ChannelsFit (stopOnLine 0) :=
  ⟨rfl, kept_hearing, fit_joined _ rfl (by decide) rfl, fun _ _ => rfl, (hears_joined _ _), by decide, ⟨rfl, rfl, rfl, rfl⟩, rfl,
    ⟨by decide, by decide, by decide⟩, fit_joined _ rfl (by decide) rfl⟩

theorem witness_NoteDeliveredOrHeld :
    applies false (hearing joined) 3 (.note none [0xA5]) .note ∧ (3 : StationNo) ≠ joined.number ∧ joined.port.notes.length < 4
      ∧ 4 ≤ (noted (List.replicate 4 oneNote) []).port.notes.length
      ∧ applies false (hearing (noted (List.replicate 4 oneNote) [])) 3 (.note (some 8) [0xA5]) .note
      ∧ applies false (hearing joined) 3 (.note (some 31) [0xA5]) .note :=
  ⟨⟨rfl, rfl, kept_hearing, (hears_joined _ _)⟩, by decide, by decide, by decide,
    ⟨rfl, rfl, ⟨by decide, by decide, by decide⟩, .inl ⟨rfl, rfl⟩⟩, ⟨rfl, rfl, kept_hearing, (hears_joined _ _)⟩⟩

/-! Membership -/

def ownJoin : State :=
  sending (setEntries joining [⟨.membership, .join ⟨80, 20⟩, 0, true⟩]) (.join ⟨80, 20⟩) (.entry .membership)

theorem witness_JoinAppliedByState :
    frameInRange (.join ⟨80, 20⟩) = true ∧ QueueKept ownJoin ∧ ownJoin.member.station = .joining ∧ ownFrame ownJoin 8 (.join ⟨80, 20⟩) .membership
      ∧ QueueKept (hearing joining) ∧ hears (hearing joining) 3 (.join ⟨80, 20⟩) ∧ QueueKept (hearing joined)
      ∧ hears (hearing joined) 3 (.join ⟨80, 20⟩)
      ∧ joined.terms = some ⟨80, 20⟩ ∧ joined.terms ≠ some ⟨100, 20⟩ ∧ HeadStarted (hearing joined) :=
  ⟨by decide, ⟨by decide, by decide, by decide⟩, rfl, ⟨⟨rfl, rfl, rfl, rfl⟩, _, List.mem_cons_self, rfl, rfl⟩, ⟨by decide, by decide, by decide⟩,
    .inl ⟨rfl, rfl⟩, kept_hearing, (hears_joined _ _), rfl, by decide, fun _ _ => rfl⟩

theorem witness_SnapshotAppliedByState :
    frameInRange (.snapshot ⟨80, 20⟩ joined.pool) = true ∧ QueueKept (hearing syncing) ∧ hears (hearing syncing) 3 (.snapshot ⟨80, 20⟩ joined.pool)
      ∧ syncing.terms = some ⟨80, 20⟩ ∧ joined.pool.rows[8].present = true ∧ (∀ k : PriClass, joined.pool.rows[8].totals[k] = 0)
      ∧ (∀ e ∈ joined.pool.waitList, e.station ≠ syncing.number) ∧ emptyPool.rows[8].present = false
      ∧ joined.queue.entryOf .membership = none :=
  ⟨by decide, kept_syncing, (hears_syncing _ _), rfl, by decide, by decide, by decide, by decide, by decide⟩

def ownSnapshot : State :=
  sending (setEntries joined [⟨.membership, .snapshot, 0, true⟩]) (.snapshot ⟨80, 20⟩ joined.pool) (.entry .membership)

theorem witness_SnapshotAppliedByState_own :
    QueueKept ownSnapshot ∧ ownFrame ownSnapshot 8 (.snapshot ⟨80, 20⟩ joined.pool) .membership :=
  ⟨⟨by decide, by decide, by decide⟩, ⟨rfl, rfl, rfl, rfl⟩, _, List.mem_cons_self, rfl, rfl⟩

def timed : CensusHeader := ⟨.timed, ⟨80, 20⟩, 0⟩

theorem witness_CensusEvaluatedInOrder :
    takesCensus false (hearing joined) 3 timed ∧ takesCensus true (censusOnLine 0) 8 timed
      ∧ dissentsAlone timed ⟨0x51A, 0, 0, 0x100⟩ 8 ∧ isVoid timed ⟨0x108, 0, 0, 0x100⟩ ∧ ¬ isVoid timed ⟨0x51A, 0, 0, 0x100⟩ :=
  ⟨⟨rfl, .inl (hears_joined _ _)⟩, ⟨rfl, rfl, rfl, .inl ⟨rfl, rfl, rfl, rfl⟩⟩, ⟨rfl, by decide, by decide⟩, ⟨rfl, by decide, by decide⟩,
    fun h => absurd h.2.2 (by decide)⟩

theorem witness_CensusEvaluatedInOrder_passed :
    let m : Maps := ⟨0x108, 0, 0, 0⟩
    QueueKept (hearing joined) ∧ ¬ dissentsAlone timed m 8 ∧ ¬ isVoid timed m ∧ m.joined.getLsbD 8 = true
      ∧ (⟨0x8, 0, 0, 0⟩ : Maps).joined.getLsbD 8 = false ∧ HeadStarted (hearing joined) :=
  ⟨kept_hearing, fun h => absurd h.2.2 (by decide), fun h => absurd h.2.1 (by decide), by decide, by decide, fun _ _ => rfl⟩

theorem witness_CensusEvaluatedInOrder_answering :
    let s := after1 (.censusAnswerField 3 timed) (hearing joined)
    s.line.state = .answering ∧ s.line.ownFrame = none ∧ ∃ a, s.line.answer = some a ∧ a.sender = 3 ∧ a.header = timed :=
  ⟨rfl, rfl, _, rfl, rfl, rfl⟩

theorem witness_CensusAtSyncingStation :
    takesCensus false (hearing syncing) 3 timed ∧ QueueKept (hearing syncing) ∧ syncing.member.station = .syncing
      ∧ isVoid timed ⟨0, 0, 0, 1⟩ ∧ ¬ isVoid timed ⟨0, 0x100, 0, 0⟩ ∧ (0x100 : BitVec 32).getLsbD 8 = true
      ∧ syncing.member.syncCount < 2 ∧ takesCensus false (hearing joining) 3 timed ∧ joining.queue.census = none :=
  ⟨⟨rfl, .inl (hears_syncing _ _)⟩, kept_syncing, rfl, ⟨rfl, by decide, by decide⟩, fun h => absurd h.2.1 (by decide), by decide, by decide,
    ⟨rfl, .inl (.inl ⟨rfl, rfl⟩)⟩, rfl⟩

theorem test_third_member_census_isolates :
    let s := hearing { syncing with member := { syncing.member with syncCount := 2 } }
    let t := after1 (.census 3 timed ⟨8, 0x100, 0, 0⟩) s
    t.member.station = .isolated ∧ t.member.reason = .noSnapshot ∧ s.member.syncCount = 2 := by decide

/-! Timers, probe, supervision, the monitor -/

theorem witness_TimersAndClockAct :
    joined.member.station = .joined ∧ joined.member.censusTimer = some 200 ∧ syncing.member.station = .syncing
      ∧ syncing.member.syncTimer = some 200 ∧ joined.monitor.clock.toNat < 4294967295
      ∧ (0xFFFFFFFF : BitVec 32).toNat = 4294967295 := by decide

theorem witness_InrushExpiryRunsAndTrims :
    (granted.channel 1).state = .inrush ∧ (granted.channel 1).inrushTimer = some 300 ∧ channelFits granted 1 ∧ SlotsWellKept granted.queue
      ∧ (granted.cfg 1).hold < (granted.cfg 1).inrush ∧ (granted.cfg 4).inrush ≤ (granted.cfg 4).hold :=
  ⟨rfl, rfl, ⟨rfl, rfl, rfl⟩, by decide, by decide, by decide⟩

theorem witness_SpacingExpiryStartsHead :
    startWaiting.chan.spacing = some 50 ∧ startWaiting.chan.startQueue = 0 :: [] ∧ startWaiting.chan.latch = false
      ∧ ({ joined with chan := { joined.chan with spacing := some 50 } } : State).chan.startQueue = [] := by decide

theorem witness_ProbeWindowJudged :
    probing.probe.queue = 3 :: [] ∧ (probing.channel 3).state = .probing ∧ (probing.channel 3).startReq = some ⟨0, true⟩
      ∧ channelFits probing 3 ∧ SlotsWellKept probing.queue ∧ (probing.channel 3).fault.all (fun f => !f.stopping) = true
      ∧ (probing.cfg 3).openCount ≤ min 900 65535 ∧ min 30000 65535 ≤ (probing.cfg 3).shortCount
      ∧ min 899 65535 < (probing.cfg 3).openCount ∧ (probing.cfg 3).shortCount < min 30001 65535 :=
  ⟨rfl, rfl, rfl, ⟨rfl, rfl, rfl⟩, by decide, by decide, by decide, by decide, by decide, by decide⟩

theorem witness_OvercurrentFaultsChannel :
    drivesInOrder reported 1 ∧ limitOf reported 1 < min 801 8000 ∧ ¬ limitOf reported 1 < min 800 8000 ∧ drivesInOrder granted 1
      ∧ limitOf granted 1 < min 1601 8000 ∧ ¬ limitOf granted 1 < min 1600 8000 ∧ joined.driven 0 = false :=
  ⟨⟨by decide, ⟨rfl, .inr ⟨rfl, rfl⟩⟩, by decide, by decide⟩, by decide, by decide, ⟨by decide, ⟨rfl, rfl, rfl⟩, by decide, by decide⟩,
    by decide, by decide, by decide⟩

/-- Channel 2 with the open-load action STOP. -/
def stopAction : State :=
  let s := setRow (setCh joined 2 .run 10) 8 #v[0, 10, 0, 0]
  { s with settings := { s.settings with chans := s.settings.chans.set 2 { s.cfg 2 with olReport := false } } }

theorem witness_OpenLoadAndMeasurement :
    drivesInOrder stopAction 2 ∧ (stopAction.cfg 2).olReport = false ∧ min 119 8000 < 2 * (stopAction.cfg 2).olThreshold
      ∧ drivesInOrder reported 1 ∧ (reported.cfg 1).olReport = true ∧ (reported.channel 1).state = .run
      ∧ (reported.channel 1).olSpent = false ∧ (reported.channel 1).fault = none ∧ (reported.cfg 1).olThreshold ≠ 0
      ∧ 2 * (reported.cfg 1).olThreshold ≤ min 120 8000 ∧ ((after1 (.openLoad 1 95) reported).channel 1).olSpent = true :=
  ⟨⟨by decide, ⟨rfl, .inr ⟨rfl, rfl⟩⟩, by decide, by decide⟩, rfl, by decide, ⟨by decide, ⟨rfl, .inr ⟨rfl, rfl⟩⟩, by decide, by decide⟩,
    rfl, rfl, rfl, rfl, by decide, by decide, by decide⟩

theorem witness_OpenLoadAndMeasurement_repeated :
    let s := after1 (.openLoadRearm 1 120) (after1 (.openLoad 1 95) reported)
    (s.channel 1).olSpent = false ∧ (s.channel 1).fault = some ⟨.openLoad, false, 0, 95, .run, false⟩ ∧ s.driven 1 = true := by decide

theorem inOrder_joined : ChannelsInOrder joined := ⟨fit_joined _ rfl (by decide) rfl, kept_joined, by decide⟩

def atTemperature (t : TempState) : State := { joined with monitor := { joined.monitor with temperature := t } }

theorem witness_TemperatureStatesChange :
    joined.monitor.temperature = .normal ∧ (atTemperature .warning).monitor.temperature = .warning
      ∧ (atTemperature .shutdown).monitor.temperature = .shutdown ∧ joined.monitor.temperature ≠ .shutdown ∧ ChannelsInOrder joined
      ∧ (125 : Int) ≤ 125 ∧ (149 : Int) < 150 ∧ (110 : Int) ≤ 110 ∧ (109 : Int) < 110 ∧ (134 : Int) < 135 ∧ (150 : Int) ≤ 150 :=
  ⟨rfl, rfl, rfl, by decide, inOrder_joined, by decide, by decide, by decide, by decide, by decide, by decide⟩

theorem test_temperature_edges :
    [(Instr.thermalWarning 124, TempState.normal), (.thermalWarning 125, .warning), (.thermalWarning 149, .warning), (.thermalWarning 150, .shutdown), (.thermalShutdown 149, .normal),
      (.thermalShutdown 150, .shutdown)].all (fun x => decide ((after1 x.1 joined).monitor.temperature = x.2)) = true
      ∧ (after1 (.thermalWarning 110) (atTemperature .warning)).monitor.temperature = .warning
      ∧ (after1 (.thermalWarning 109) (atTemperature .warning)).monitor.temperature = .normal
      ∧ (after1 (.shutdownExit 135) (atTemperature .shutdown)).monitor.temperature = .shutdown
      ∧ (after1 (.shutdownExit 134) (atTemperature .shutdown)).monitor.temperature = .warning := by decide

def atSupply (x : SupplyState) : State := { joined with monitor := { joined.monitor with supply := x } }

theorem witness_SupplyAndSagStates :
    joined.monitor.supply ≠ .lockout ∧ ChannelsInOrder joined ∧ (atSupply .lockout).monitor.supply = .lockout
      ∧ (atSupply .sag).monitor.supply = .sag ∧ 18000 + 500 * joined.settings.sagCode < 21001 ∧ joined.monitor.supply = .normal
      ∧ joined.member.station ≠ .unconfigured ∧ 19999 < 17000 + 500 * joined.settings.sagCode ∧ SlotsWellKept joined.queue
      ∧ joined.settings.sagShedding = true ∧ joined.pool.level < 3 ∧ (∀ e ∈ joined.queue.entries, e.owner ≠ .shed) :=
  ⟨by decide, inOrder_joined, rfl, rfl, by decide, rfl, by decide, by decide, by decide, rfl, by decide, by decide⟩

theorem witness_SagOpensAndAsksRaise_slot :
    (∃ e ∈ (shedding (.shed .set 2) true).queue.entries, e.owner = .shed ∧ e.onLine = true)
      ∧ (∃ e ∈ (shedding (.shed .set 2) false).queue.entries, e.owner = .shed ∧ e.onLine = false ∧ e.content = .shed .set 2)
      ∧ (shedding (.shed .set 2) false).pool.level < 2
      ∧ (∃ e ∈ (shedding (.shed .raise 0) false).queue.entries, e.owner = .shed ∧ e.onLine = false)
      ∧ SlotsWellKept (shedding (.shed .raise 0) false).queue := by decide

theorem test_supply_edges :
    [(Instr.lockoutEntry 15000, SupplyState.normal), (.lockoutEntry 14999, .lockout), (.sagEpisodeOpen 20000, .normal),
      (.sagEpisodeOpen 19999, .sag)].all (fun x => decide ((after1 x.1 joined).monitor.supply = x.2)) = true
      ∧ (after1 (.lockoutExit 16000) (atSupply .lockout)).monitor.supply = .lockout
      ∧ (after1 (.lockoutExit 16001) (atSupply .lockout)).monitor.supply = .normal
      ∧ (after1 (.sagEpisodeClose 21000) (atSupply .sag)).monitor.supply = .sag
      ∧ (after1 (.sagEpisodeClose 21001) (atSupply .sag)).monitor.supply = .normal := by decide

/-! The whole machine -/

theorem witness_OutputsFollowState :
    joined.line.state ∈ [LineState.offLine, .idle, .holding, .stuck] ∧ (going 0).line.state = .sending
      ∧ (going 0).line.ownFrame = some (.go 2) ∧ (hearing joined).line.state = .receiving ∧ (hearing joined).line.passive = false
      ∧ (collided (going 0)).line.collided = true ∧ (truncateFrame (going 0)).line.passive = true
      ∧ ∃ a, (after1 (.censusAnswerField 3 timed) (hearing joined)).line.answer = some a ∧ a.joined = true ∧ a.syncing = false :=
  ⟨by decide, rfl, rfl, rfl, rfl, rfl, rfl, _, rfl, rfl, rfl⟩

theorem test_wires :
    let answering := answeringPeer
    answering.dataOut (.answerBit 8) = false ∧ answering.dataOut (.answerBit 9) = true ∧ answering.dataOut (.answerBit 104) = false
      ∧ answering.dataOut (.slotTwo (mapsBits ⟨0x100, 0, 0, 0⟩)) = false ∧ answering.dataOut (.slotTwo (mapsBits ⟨0x108, 0, 0, 0x100⟩)) = true
      ∧ (hearing joined).dataOut (.slotOne (frameBits 3 (.go 2))) = true
      ∧ (hearing joined).dataOut (.slotOne ((frameBits 3 (.go 2)).dropLast ++ [true])) = false
      ∧ joined.dataLevel [true, false] .startBit = false ∧ (noted [] [oneNote]).holdLevel [true] = false
      ∧ (noted [] []).holdLevel [true] = true := by decide +kernel

theorem witness_PoolChangesOnlyByFrames :
    (∃ t, exec .silenceTimerExpiry joined = .next t) ∧ changesPool .silenceTimerExpiry = false ∧ changesPool (.goApplied 3 1) = false :=
  ⟨⟨_, rfl⟩, rfl, rfl⟩

theorem witness_CommitFreezesAndStatesMove :
    (∃ t, exec .start ready = .next t ∧ t.member.station ≠ ready.member.station) ∧ ready.member.station ≠ .unconfigured :=
  ⟨⟨_, rfl, by decide⟩, by decide⟩

theorem witness_FrameBitsReceivedBack :
    frameInRange (.claim 5 3 255 15 true) = true ∧ frameInRange (.snapshot ⟨4095, 255⟩ three) = true
      ∧ frameInRange (.note (some 31) (List.replicate 16 0xFF)) = true := by decide

theorem agree_joined : BlocksAgree joined :=
  ⟨by decide, by decide, by decide, by decide, by decide, by decide, by decide, by decide, by decide⟩

theorem poolKept_joined : PoolKept 80 joined.pool := ⟨by decide, by decide, by decide, by decide, by decide⟩

theorem witness_StationAgreementKept :
    BlocksAgree joined ∧ ∃ t, step { joined with pending := [.silenceTimerExpiry] } = .next t := ⟨agree_joined, _, rfl⟩

theorem witness_TransmitQueueKept :
    LineFollowsStation joined ∧ NotesBounded joined ∧ QueueKept joined ∧ QueueKept (deferring (.shed .set 0) (.shed .set 0)) :=
  ⟨by decide, by decide, kept_joined, ⟨by decide, by decide, by decide⟩⟩

/-- A snapshot in front of a syncing station's queue. -/
def adopting : State := { hearing syncing with pending := [.snapshot 3 ⟨80, 20⟩ joined.pool] }

theorem snapshots_adopting : SnapshotsInOrder adopting := by
  intro n t p rest h
  simp only [adopting, List.cons.injEq, Instr.snapshot.injEq] at h
  obtain ⟨⟨rfl, rfl, rfl⟩, rfl⟩ := h
  exact poolKept_joined

theorem witness_PoolStateKept :
    PoolEmptyUnlessJoined adopting ∧ PoolKept adopting.limit adopting.pool ∧ SnapshotsInOrder adopting ∧ ∃ t, step adopting = .next t :=
  ⟨by decide, ⟨by decide, by decide, by decide, by decide, by decide⟩, snapshots_adopting, _, rfl⟩

theorem witness_QuiescentHoldsNothing :
    OwnRowMirrors joined ∧ OwnEntriesWait joined ∧ (∀ c : ChanNo, channelFits joined c) ∧ quiescent joined = true :=
  ⟨by decide, by decide, (fit_joined joined rfl (by decide) rfl).1, by decide⟩

/-- Channel 2 is claimed and its frame is on the line, channel 1 runs on its hold units: a station with its accounts in order. -/
def accounted : State :=
  setRow (sending (setEntries (setCh (setCh joined 1 .run 15) 2 .claiming 0) [⟨.channel 2, .claim 2 1 30 0 true, 0, true⟩])
    (.claim 2 1 30 0 true) (.entry (.channel 2))) 8 #v[0, 15, 0, 0]

theorem accounted_accounted : Accounted accounted where
  blocks := ⟨by decide, by decide, by decide, by decide, by decide, by decide, by decide, by decide, by decide⟩
  queue := ⟨by decide, by decide, by decide⟩
  pool := ⟨by decide, by decide, by decide, by decide, by decide⟩
  fits := by
    intro c
    fin_cases c <;> first | exact ⟨rfl, rfl, rfl⟩ | exact ⟨rfl, .inr ⟨rfl, rfl⟩⟩
  starts := by decide
  head := fun _ _ => rfl
  probes := by decide
  records := by decide
  faults := by decide
  disabled := by decide
  settings := by decide
  frames := by
    intro c e he ho
    have : e = ⟨.channel 2, .claim 2 1 30 0 true, 0, true⟩ := List.mem_singleton.mp he
    subst this
    cases ho
    exact ⟨rfl, rfl, rfl⟩
  carries := by decide
  entries := by decide
  waits := by decide
  mirrors := by decide

theorem witness_OwnRowMirrorKept :
    let s := { accounted with pending := [.claim 8 2 1 30 0 true] }
    Accounted accounted ∧ SnapshotsInOrder s ∧ NoTwin s ∧ ∃ t, step s = .next t ∧ t.pool.waitList = [⟨8, 2, 1, 30, 0⟩] := by
  refine ⟨accounted_accounted, ?_, ?_, _, rfl, by decide⟩
  · intro n t p rest h; cases h
  · intro c rest n f _ _ _; exact .inl rfl

end Sys2Proof.Tests
end

section
/-! The pool state in order: what each change of the pool engine does to one class total, and that each keeps R3, R4, R7, R9
and R11 (spec/01_pool_state.md; spec/04_claims_releases_and_the_wait_list.md R59 to R77). -/

namespace Sys2Proof.Machine

/-! ### One row replaced -/

theorem row_setRow_same (p : Pool) (n : StationNo) (r : Row) : ({ p with rows := p.rows.set n r } : Pool).rows[n] = r := by
  simp

theorem row_setRow_of_ne (p : Pool) {n m : StationNo} (h : m ≠ n) (r : Row) :
    ({ p with rows := p.rows.set n r } : Pool).rows[m] = p.rows[m] := by
  have : (n : Nat) ≠ m := fun e => h (Fin.ext e.symm)
  simp [this]

/-! ### One class total lowered (R12) -/

/-- A class total after the subtraction clamp: the named one falls, the others stay. -/
theorem total_subUnits (p : Pool) (n m : StationNo) (k j : PriClass) (u : Nat) :
    (subUnits p n k u).rows[m].totals[j] = p.rows[m].totals[j] - if m = n ∧ j = k then u else 0 := by
  by_cases hm : m = n
  · subst hm
    by_cases hj : j = k
    · subst hj; simp [subUnits]
    · have : (k : Nat) ≠ j := fun e => hj (Fin.ext e.symm)
      simp [subUnits, hj, this]
  · have : (n : Nat) ≠ m := fun e => hm (Fin.ext e.symm)
    simp [subUnits, hm, this]

theorem presence_subUnits (p : Pool) (n m : StationNo) (k : PriClass) (u : Nat) :
    (subUnits p n k u).rows[m].present = p.rows[m].present ∧ (subUnits p n k u).rows[m].misses = p.rows[m].misses := by
  by_cases hm : m = n
  · subst hm; simp [subUnits]
  · have : (n : Nat) ≠ m := fun e => hm (Fin.ext e.symm)
    simp [subUnits, this]

theorem subUnits_zero (p : Pool) (n : StationNo) (k : PriClass) : subUnits p n k 0 = p := by
  simp only [subUnits, Nat.sub_zero, Fin.getElem_fin, Vector.set_getElem_self]
  exact congrArg (fun rows => { p with rows := rows }) (Vector.set_getElem_self _)

/-! ### The pool sum by rows and classes -/

theorem rowSum_eq_sum (r : Row) : rowSum r = ∑ k : PriClass, r.totals[k] := by
  have h : r.totals.toList = List.ofFn fun k : PriClass => r.totals[k] := by
    simp only [← Vector.toList_ofFn, Fin.getElem_fin, Vector.ofFn_getElem]
  rw [rowSum, h, List.sum_ofFn]

theorem poolSum_eq_sum (p : Pool) : poolSum p = ∑ n : StationNo, rowSum p.rows[n] := by
  have h : p.rows.toList = List.ofFn fun n : StationNo => p.rows[n] := by
    simp only [← Vector.toList_ofFn, Fin.getElem_fin, Vector.ofFn_getElem]
  rw [poolSum, h, List.map_ofFn, List.sum_ofFn]
  rfl

/-- No class total of `q` is above that of `p`. -/
def TotalsLe (q p : Pool) : Prop := ∀ (n : StationNo) (k : PriClass), q.rows[n].totals[k] ≤ p.rows[n].totals[k]

theorem TotalsLe.poolSum_le {q p : Pool} (h : TotalsLe q p) : poolSum q ≤ poolSum p := by
  simp only [poolSum_eq_sum, rowSum_eq_sum]
  exact Finset.sum_le_sum fun n _ => Finset.sum_le_sum fun k _ => h n k

end Sys2Proof.Machine

namespace Sys2Proof.Safety

open Sys2Proof.Machine

/-! ### PoolKept by what changes -/

/-- A pool state whose class totals and misses are all zero and whose list is empty is in order within any limit. -/
theorem PoolKept.of_zero {p : Pool} (limit : Nat) (hw : p.waitList = []) (hm : ∀ n : StationNo, p.rows[n].misses = 0)
    (ht : ∀ (n : StationNo) (k : PriClass), p.rows[n].totals[k] = 0) : PoolKept limit p where
  waits := by simp [WaitListKept, hw]
  shed := fun n k _ => ht n k
  rows := fun n => ⟨(hm n).le.trans (Nat.zero_le 3), fun _ => ⟨hm n, ht n⟩⟩
  entries := by simp [EntriesPresent, hw]
  within := by simp only [poolSum_eq_sum, rowSum_eq_sum, ht, Finset.sum_const_zero, Nat.zero_le]

theorem PoolKept.emptyPool (limit : Nat) : PoolKept limit emptyPool := by
  apply PoolKept.of_zero limit rfl <;> simp [Machine.emptyPool, absentRow]

theorem PoolKept.foundedPool (limit : Nat) (syncing : BitVec 32) : PoolKept limit (foundedPool syncing) := by
  apply PoolKept.of_zero limit
  · simp [Machine.foundedPool, Machine.emptyPool]
  · intro n
    rw [Machine.foundedPool, row_mapRows]
    split <;> rfl
  · intro n k
    rw [Machine.foundedPool, row_mapRows]
    split <;> simp [freshRow, absentRow]

/-- Entries leave and class totals fall: what is left of a pool state in order is in order, where its level is no higher, its rows
and the stations of its entries are as R3, R4 and R9 say. -/
theorem PoolKept.of_totalsLe {limit : Nat} {q p : Pool} (h : PoolKept limit p) (hw : q.waitList.Sublist p.waitList)
    (ht : TotalsLe q p) (hl : q.level ≤ p.level) (hr : RowsKept q) (he : EntriesPresent q) : PoolKept limit q where
  waits := by
    obtain ⟨hlen, hnodup, hcls⟩ := h.waits
    exact ⟨hw.length_le.trans hlen, (hw.map _).nodup hnodup, fun e m => hl.trans (hcls e (hw.subset m))⟩
  shed := fun n k hk => Nat.le_zero.mp (h.shed n k (hk.trans_le hl) ▸ ht n k)
  rows := hr
  entries := he
  within := ht.poolSum_le.trans h.within

/-- Entries leave the list, and nothing else changes (R10). -/
theorem PoolKept.of_sublist {limit : Nat} {p : Pool} (h : PoolKept limit p) {w : List WaitEntry} (hw : w.Sublist p.waitList) :
    PoolKept limit { p with waitList := w } :=
  h.of_totalsLe hw (fun _ _ => le_rfl) le_rfl h.rows fun e m => h.entries e (hw.subset m)

theorem PoolKept.removeEntry {limit : Nat} {p : Pool} (h : PoolKept limit p) (n : StationNo) (c : ChanNo) :
    PoolKept limit (removeEntry p n c) :=
  h.of_sublist List.filter_sublist

/-- Units within the limit, to a PRESENT row and a class not shed (R60, R61). -/
theorem PoolKept.addUnits {limit : Nat} {p : Pool} (h : PoolKept limit p) {n : StationNo} {k : PriClass} {u : Nat}
    (hn : p.rows[n].present = true) (hk : p.level ≤ k) (hu : poolSum p + u ≤ limit) : PoolKept limit (addUnits p n k u) where
  waits := h.waits
  shed := by
    intro m j hj
    have hne : ¬ (m = n ∧ j = k) := fun e => absurd hk (not_le.mpr (e.2 ▸ hj))
    rw [total_addUnits, if_neg hne]
    exact h.shed m j hj
  rows := by
    intro m
    obtain ⟨hpres, hmiss⟩ := presence_addUnits p n m k u
    obtain ⟨hle, habs⟩ := h.rows m
    rw [hpres, hmiss]
    refine ⟨hle, fun ha => ⟨(habs ha).1, fun j => ?_⟩⟩
    have hne : ¬ (m = n ∧ j = k) := by rintro ⟨rfl, -⟩; exact absurd (hn.symm.trans ha) (by decide)
    rw [total_addUnits, if_neg hne]
    exact (habs ha).2 j
  entries := fun e m => (presence_addUnits p n e.station k u).1.trans (h.entries e m)
  within := by rwa [poolSum_addUnits]

/-! ### Wait-list service (R68) -/

/-- Service over a list keeps the pool state in order, where it is in order with that list. -/
theorem PoolKept.serveList {limit : Nat} (w : List WaitEntry) {p : Pool} (h : PoolKept limit { p with waitList := w }) :
    PoolKept limit (serveList limit p w).1 := by
  induction w generalizing p with
  | nil => exact h
  | cons e rest ih =>
    unfold Machine.serveList
    split
    case isFalse => exact h
    case isTrue hfit =>
      have hsum : poolSum p ≤ limit := by simpa using h.within
      have hroom : poolSum p + e.units ≤ limit := by unfold freeUnits at hfit; omega
      have hrest : PoolKept limit { p with waitList := rest } := h.of_sublist (List.sublist_cons_self e rest)
      obtain ⟨-, -, hcls⟩ := h.waits
      exact ih (hrest.addUnits (h.entries e List.mem_cons_self) (hcls e List.mem_cons_self) (by simpa using hroom))

theorem PoolKept.serve {limit : Nat} {p : Pool} (h : PoolKept limit p) : PoolKept limit (serve limit p).1 :=
  PoolKept.serveList p.waitList h

/-! ### Claims, releases and withdrawals (R59 to R67) -/

/-- The decision of a CLAIM, made against a list without an entry of its channel, keeps the pool state in order (R59 to R62). -/
theorem PoolKept.applyVerdict {limit : Nat} {p : Pool} (h : PoolKept limit p) {n : StationNo} {c : ChanNo} (k : PriClass)
    (u : Nat) (g : GroupNo) (wait : Bool) (hc : ∀ e ∈ p.waitList, entryIs n c e = false) :
    PoolKept limit (applyVerdict p n c k u g (decideClaim limit p n k u wait)) := by
  unfold decideClaim
  split
  case isTrue => exact h
  split
  case isTrue => exact h
  rename_i hpresent hlevel
  have hpresent : p.rows[n].present = true := by simpa using hpresent
  split
  case isTrue hgrant =>
    have := h.within
    exact h.addUnits hpresent (not_lt.mp hlevel) (by have := hgrant.2; unfold freeUnits at this; omega)
  split
  case isFalse => exact h
  split
  case isFalse => exact h
  case isTrue hroom =>
    obtain ⟨hlen, hnodup, hcls⟩ := h.waits
    refine ⟨⟨?_, ?_, ?_⟩, h.shed, h.rows, ?_, by simpa [Machine.applyVerdict] using h.within⟩
    · simpa [Machine.applyVerdict] using hroom
    · simp only [Machine.applyVerdict, List.map_append, List.map_cons, List.map_nil]
      refine hnodup.append (List.nodup_singleton _) (List.disjoint_singleton.mpr fun hm => ?_)
      obtain ⟨e, he, heq⟩ := List.mem_map.mp hm
      simp only [Prod.mk.injEq] at heq
      simpa [entryIs, heq] using hc e he
    · intro e he
      rcases List.mem_append.mp he with he | he
      · exact hcls e he
      · rw [List.mem_singleton.mp he]; exact not_lt.mp hlevel
    · intro e he
      rcases List.mem_append.mp he with he | he
      · exact h.entries e he
      · rw [List.mem_singleton.mp he]; exact hpresent

theorem PoolKept.applyClaim {limit : Nat} {p : Pool} (h : PoolKept limit p) (n : StationNo) (c : ChanNo) (k : PriClass) (u : Nat)
    (g : GroupNo) (wait : Bool) : PoolKept limit (applyClaim limit p n c k u g wait).1 := by
  have hdecided := (h.removeEntry n c).applyVerdict (n := n) (c := c) k u g wait fun e he => by
    simpa using (List.mem_filter.mp he).2
  unfold Machine.applyClaim
  dsimp only
  split
  · exact hdecided.serve
  · exact hdecided

theorem PoolKept.applyRelease {limit : Nat} {p : Pool} (h : PoolKept limit p) (n : StationNo) (k : PriClass) (u : Nat) :
    PoolKept limit (applyRelease limit p n k u).1 := by
  have hle : TotalsLe (subUnits p n k u) p := fun m j => by rw [total_subUnits]; exact Nat.sub_le _ _
  refine PoolKept.serve (h.of_totalsLe (List.Sublist.refl _) hle le_rfl (fun m => ?_) fun e he => ?_)
  · obtain ⟨hpres, hmiss⟩ := presence_subUnits p n m k u
    obtain ⟨hmax, habs⟩ := h.rows m
    rw [hpres, hmiss]
    exact ⟨hmax, fun ha => ⟨(habs ha).1, fun j => Nat.le_zero.mp ((habs ha).2 j ▸ hle m j)⟩⟩
  · rw [(presence_subUnits p n e.station k u).1]
    exact h.entries e he

theorem PoolKept.applyWithdraw {limit : Nat} {p : Pool} (h : PoolKept limit p) (n : StationNo) (c : ChanNo) :
    PoolKept limit (applyWithdraw limit p n c).1 :=
  (h.removeEntry n c).serve

/-! ### Shed levels (R7, R72, R73) -/

theorem total_zeroBelow (l : ShedLevel) (r : Row) (k : PriClass) :
    (zeroBelow l r).totals[k] = if k < l then 0 else r.totals[k] := by
  simp [zeroBelow]

theorem PoolKept.raiseLevel {limit : Nat} {p : Pool} (h : PoolKept limit p) (l : ShedLevel) :
    PoolKept limit (raiseLevel p l) := by
  have hsub : (Machine.raiseLevel p l).waitList.Sublist p.waitList := List.filter_sublist
  have hrow : ∀ n : StationNo, (Machine.raiseLevel p l).rows[n] = zeroBelow l p.rows[n] := row_mapRows p _
  have hle : TotalsLe (Machine.raiseLevel p l) p := by
    intro n k
    rw [hrow, total_zeroBelow]
    split <;> simp
  obtain ⟨hlen, hnodup, -⟩ := h.waits
  refine ⟨⟨hsub.length_le.trans hlen, (hsub.map _).nodup hnodup, fun e he => ?_⟩, fun n k hk => ?_, fun n => ?_, fun e he => ?_,
    hle.poolSum_le.trans h.within⟩
  · exact of_decide_eq_true (List.mem_filter.mp he).2
  · rw [hrow, total_zeroBelow]
    exact if_pos hk
  · obtain ⟨hmax, habs⟩ := h.rows n
    refine ⟨hrow n ▸ hmax, fun ha => ?_⟩
    have ha : p.rows[n].present = false := by rw [hrow] at ha; exact ha
    exact ⟨hrow n ▸ (habs ha).1, fun k => Nat.le_zero.mp ((habs ha).2 k ▸ hle n k)⟩
  · rw [hrow]
    exact h.entries e (hsub.subset he)

theorem PoolKept.applyShedSet {limit : Nat} {p : Pool} (h : PoolKept limit p) (l : ShedLevel) :
    PoolKept limit (applyShedSet limit p l).1 := by
  unfold Machine.applyShedSet
  split
  case isTrue => exact h.raiseLevel l
  case isFalse hl =>
    exact PoolKept.serve (h.of_totalsLe (List.Sublist.refl _) (fun _ _ => le_rfl) (not_lt.mp hl) h.rows h.entries)

/-! ### Rows emptied, made or dropped (R76, R77, R86, R98) -/

/-- A row that replaces `old` within R3 and R4: it holds nothing, or it is PRESENT with the totals of `old`. -/
def ReplacesRow (new old : Row) : Prop :=
  new.misses ≤ 3 ∧
    ((∀ k : PriClass, new.totals[k] = 0) ∧ (new.present = false → new.misses = 0)
      ∨ new.totals = old.totals ∧ new.present = true)

theorem ReplacesRow.empty {new old : Row} (hmax : new.misses ≤ 3) (hzero : ∀ k : PriClass, new.totals[k] = 0)
    (habs : new.present = false → new.misses = 0) : ReplacesRow new old := ⟨hmax, .inl ⟨hzero, habs⟩⟩

theorem ReplacesRow.same {new old : Row} (hmax : new.misses ≤ 3) (htotals : new.totals = old.totals)
    (hpres : new.present = true) : ReplacesRow new old := ⟨hmax, .inr ⟨htotals, hpres⟩⟩

theorem PoolKept.row_as_before {limit : Nat} {p : Pool} (h : PoolKept limit p) (n : StationNo) :
    ReplacesRow p.rows[n] p.rows[n] := by
  obtain ⟨hmax, habs⟩ := h.rows n
  cases hpres : p.rows[n].present
  · exact .empty hmax (habs hpres).2 fun _ => (habs hpres).1
  · exact .same hmax rfl hpres

theorem PoolKept.clearTotals_row {limit : Nat} {p : Pool} (h : PoolKept limit p) (n : StationNo) :
    ReplacesRow (clearTotals p.rows[n]) p.rows[n] :=
  .empty (h.rows n).1 (fun k => by simp [clearTotals]) fun ha => ((h.rows n).2 ha).1

theorem freshRow_replaces (r : Row) : ReplacesRow freshRow r :=
  .empty (Nat.zero_le 3) (fun k => by simp [freshRow]) fun _ => rfl

/-- Rows are replaced and entries leave: the pool state stays in order while every entry that stays names a PRESENT row. -/
theorem PoolKept.of_rows {limit : Nat} {q p : Pool} (h : PoolKept limit p) (hw : q.waitList.Sublist p.waitList)
    (hl : q.level = p.level) (he : EntriesPresent q) (hr : ∀ n : StationNo, ReplacesRow q.rows[n] p.rows[n]) :
    PoolKept limit q := by
  refine h.of_totalsLe hw (fun n k => ?_) hl.le (fun n => ?_) he
  · rcases (hr n).2 with ⟨hzero, -⟩ | ⟨hsame, -⟩
    · exact hzero k ▸ Nat.zero_le _
    · rw [hsame]
  · refine ⟨(hr n).1, fun ha => ?_⟩
    rcases (hr n).2 with ⟨hzero, hmiss⟩ | ⟨-, hpres⟩
    · exact ⟨hmiss ha, hzero⟩
    · exact absurd (hpres.symm.trans ha) (by decide)

/-- Every row is replaced by its number, and entries leave. -/
theorem PoolKept.mapRows {limit : Nat} {p : Pool} (h : PoolKept limit p) {f : StationNo → Row → Row} {w : List WaitEntry}
    (hw : w.Sublist p.waitList) (he : ∀ e ∈ w, (f e.station p.rows[e.station]).present = true)
    (hr : ∀ n : StationNo, ReplacesRow (f n p.rows[n]) p.rows[n]) : PoolKept limit { mapRows p f with waitList := w } := by
  have hlevel := level_mapRows p f
  have hrow := row_mapRows p f
  generalize Machine.mapRows p f = q at *
  exact h.of_rows (q := { q with waitList := w }) hw hlevel (fun e m => (hrow e.station).symm ▸ he e m)
    fun n => (hrow n).symm ▸ hr n

/-- One row is replaced by one that holds nothing, and its station's entries leave (R77, R86). -/
theorem PoolKept.setRow_removeStation {limit : Nat} {p : Pool} (h : PoolKept limit p) (n : StationNo) {r : Row}
    (hr : ReplacesRow r p.rows[n]) : PoolKept limit (removeStation { p with rows := p.rows.set n r } n) := by
  refine h.of_rows List.filter_sublist rfl (fun e he => ?_) fun m => ?_
  · obtain ⟨hmem, hne⟩ := List.mem_filter.mp he
    rw [rows_removeStation, row_setRow_of_ne p (of_decide_eq_true hne)]
    exact h.entries e hmem
  · rw [rows_removeStation]
    by_cases hm : m = n
    · subst hm
      rwa [row_setRow_same]
    · rw [row_setRow_of_ne p hm]
      exact h.row_as_before m

theorem PoolKept.applyStopAll {limit : Nat} {p : Pool} (h : PoolKept limit p) : PoolKept limit (applyStopAll limit p).1 :=
  (h.mapRows (f := fun _ => clearTotals) (List.nil_sublist _) (by simp) h.clearTotals_row).serve

theorem PoolKept.applyStopStation {limit : Nat} {p : Pool} (h : PoolKept limit p) (n : StationNo) :
    PoolKept limit (applyStopStation limit p n).1 :=
  (h.setRow_removeStation n (h.clearTotals_row n)).serve

theorem PoolKept.applyJoin {limit : Nat} {p : Pool} (h : PoolKept limit p) (n : StationNo) :
    PoolKept limit (applyJoin limit p n).1 :=
  (h.setRow_removeStation n (freshRow_replaces _)).serve

/-- A row that a timed census does not drop keeps its presence (R98). -/
theorem countMiss_present {joined : BitVec 32} {n : StationNo} {r : Row} (hd : dropped joined n r = false) :
    (countMiss joined n r).present = r.present := by
  unfold countMiss
  split
  · split
    · rfl
    · simp [hd]
  · rfl

/-- A timed census drops a row or counts its misses within 3 (R5, R98). -/
theorem PoolKept.countMiss_row {limit : Nat} {p : Pool} (h : PoolKept limit p) (joined : BitVec 32) (n : StationNo) :
    ReplacesRow (countMiss joined n p.rows[n]) p.rows[n] := by
  unfold countMiss
  split
  case isFalse => exact h.row_as_before n
  rename_i hpres
  split
  case isTrue => exact .same (Nat.zero_le 3) rfl hpres
  rename_i hbit
  split
  case isTrue => exact .empty (Nat.zero_le 3) (fun k => by simp [absentRow]) fun _ => rfl
  rename_i hstay
  have hlt : p.rows[n].misses < Config.maxMisses := by
    rw [dropped, hpres, Bool.eq_false_of_not_eq_true hbit] at hstay
    simpa using hstay
  exact .same hlt rfl hpres

theorem PoolKept.applyMisses {limit : Nat} {p : Pool} (h : PoolKept limit p) (joined : BitVec 32) :
    PoolKept limit (applyMisses limit p joined).1 := by
  have hcounted := h.mapRows (f := countMiss joined)
    (w := p.waitList.filter fun e => !dropped joined e.station p.rows[e.station]) List.filter_sublist
    (fun e he => by
      obtain ⟨hmem, hstay⟩ := List.mem_filter.mp he
      rw [countMiss_present (by simpa using hstay)]
      exact h.entries e hmem)
    (h.countMiss_row joined)
  unfold Machine.applyMisses
  dsimp only
  split
  · exact hcounted.serve
  · exact hcounted

/-! ### The changes of the pool engine -/

/-- The changes that a JOINED station's pool engine makes of a pool state within a limit (R15, R57). -/
inductive PoolChange (limit : Nat) (p : Pool) : Pool → Prop
  | claim (n : StationNo) (c : ChanNo) (k : PriClass) (u : Nat) (g : GroupNo) (wait : Bool) :
    PoolChange limit p (applyClaim limit p n c k u g wait).1
  | release (n : StationNo) (k : PriClass) (u : Nat) : PoolChange limit p (applyRelease limit p n k u).1
  | withdraw (n : StationNo) (c : ChanNo) : PoolChange limit p (applyWithdraw limit p n c).1
  | shedSet (l : ShedLevel) : PoolChange limit p (applyShedSet limit p l).1
  | stopAll : PoolChange limit p (applyStopAll limit p).1
  | stopStation (n : StationNo) : PoolChange limit p (applyStopStation limit p n).1
  | join (n : StationNo) : PoolChange limit p (applyJoin limit p n).1
  | misses (joined : BitVec 32) : PoolChange limit p (applyMisses limit p joined).1

/-- Every change of the pool engine keeps the pool state in order and within the limit. -/
theorem PoolChange.keeps {limit : Nat} {p q : Pool} (h : PoolChange limit p q) (hp : PoolKept limit p) : PoolKept limit q := by
  cases h with
  | claim n c k u g wait => exact hp.applyClaim n c k u g wait
  | release n k u => exact hp.applyRelease n k u
  | withdraw n c => exact hp.applyWithdraw n c
  | shedSet l => exact hp.applyShedSet l
  | stopAll => exact hp.applyStopAll
  | stopStation n => exact hp.applyStopStation n
  | join n => exact hp.applyJoin n
  | misses joined => exact hp.applyMisses joined

end Sys2Proof.Safety
end

section
namespace Sys2Proof.Machine

/-- Settles O20: the rows' lemmas of the clamp and of the rise, and what each does to the pool sum. -/
theorem classTotalsMoveExactly : Obligations.ClassTotalsMoveExactly := by
  intro p n m k j u
  have hother : m ≠ n ∨ j ≠ k → ¬ (m = n ∧ j = k) := fun h e => h.elim (· e.1) (· e.2)
  obtain ⟨hsubPresent, hsubMisses⟩ := presence_subUnits p n m k u
  obtain ⟨haddPresent, haddMisses⟩ := presence_addUnits p n m k u
  refine ⟨?_, fun h => ?_, hsubPresent, hsubMisses, subUnits_zero p n k, rfl, rfl, poolSum_subUnits p n k u, ?_, fun h => ?_,
    haddPresent, haddMisses, rfl, rfl, poolSum_addUnits p n k u⟩
  · rw [total_subUnits, if_pos ⟨rfl, rfl⟩]
  · rw [total_subUnits, if_neg (hother h), Nat.sub_zero]
  · rw [total_addUnits, if_pos ⟨rfl, rfl⟩]
  · rw [total_addUnits, if_neg (hother h), Nat.add_zero]

end Sys2Proof.Machine
end

section
/-! What a command can do to a station, said once: ordinary work, which leaves the station's number, store, terms, pool state and
station state alone and its blocks in agreement, and at most one of ten larger moves between two pieces of ordinary work. -/

namespace Sys2Proof.Machine

open Sys2Proof.Safety

/-! ### Ordinary work -/

/-- Between `s` and `t` the number, the store, the terms, the pool state and the station state stay, and blocks that agreed with
the station state still do. -/
structure Works (s t : State) : Prop where
  number : t.number = s.number
  settings : t.settings = s.settings
  terms : t.terms = s.terms
  pool : t.pool = s.pool
  station : t.member.station = s.member.station
  agrees : BlocksAgree s → BlocksAgree t

theorem participating_of_joined {s : State} (hj : s.member.station = .joined) : s.participating = true := by
  simp [State.participating, hj, StationState.participates]

/-- A channel record at a station that is not JOINED: out of service, holding and owing nothing (R81, R109, R111). -/
structure ChannelRests (x : Channel) : Prop where
  counted : x.counted = 0
  state : x.state = .off ∨ x.state = .disabled ∨ x.state = .faulted
  followUp : x.followUp = false

theorem ChannelRests.not_inService {x : Channel} (h : ChannelRests x) : x.state.inService = false := by
  rcases h.state with hs | hs | hs <;> simp [hs, ChState.inService]

theorem ChannelRests.congr {x y : Channel} (h : ChannelRests x) (hcounted : y.counted = x.counted) (hstate : y.state = x.state)
    (hfollow : y.followUp = x.followUp) : ChannelRests y :=
  ⟨hcounted.trans h.counted, hstate ▸ h.state, hfollow.trans h.followUp⟩

theorem slotEmpty_iff {s : State} {c : ChanNo} : s.slotEmpty c = true ↔ s.queue.entryOf (.channel c) = none :=
  Option.isNone_iff_eq_none

end Sys2Proof.Machine

namespace Sys2Proof.Safety.BlocksAgree

open Sys2Proof.Machine

theorem participating {s : State} (h : BlocksAgree s) (hl : s.line.state ≠ .offLine) : s.participating = true := h.line.mpr hl

theorem startQueue_nil {s : State} (h : BlocksAgree s) (hj : s.member.station ≠ .joined) : s.chan.startQueue = [] := (h.owed hj).1

theorem slot_empty {s : State} (h : BlocksAgree s) (hj : s.member.station ≠ .joined) (c : ChanNo) : s.slotEmpty c = true :=
  ((h.owed hj).2 c).1

theorem latch_clear {s : State} (h : BlocksAgree s) (hj : s.member.station ≠ .joined) : s.chan.latch = false :=
  Bool.eq_false_of_not_eq_true fun hl => hj (h.latch hl)

theorem memberTimers_none {s : State} (h : BlocksAgree s) (hj : s.member.station ≠ .joined) :
    s.member.censusTimer = none ∧ s.member.silenceTimer = none := h.timers.1 hj

theorem syncTimer_none {s : State} (h : BlocksAgree s) (hs : s.member.station ≠ .syncing) : s.member.syncTimer = none :=
  h.timers.2.1 hs

theorem rejoinTimer_none {s : State} (h : BlocksAgree s) (hs : s.member.station ≠ .isolated) : s.member.rejoinTimer = none :=
  h.timers.2.2 hs

theorem terms_ne_none {s : State} (h : BlocksAgree s) (hs : s.member.station ≠ .unconfigured) : s.terms ≠ none :=
  fun ht => hs (h.terms.mp ht)

theorem channelRests {s : State} (h : BlocksAgree s) (hj : s.member.station ≠ .joined) (c : ChanNo) :
    ChannelRests (s.channel c) :=
  ⟨h.counts hj c, h.idle hj c, ((h.owed hj).2 c).2⟩

/-- At a JOINED station the blocks agree once the line controller takes part, the timers of the other states are stopped and terms
are held. -/
theorem of_joined {s : State} (hj : s.member.station = .joined) (hl : s.line.state ≠ .offLine)
    (hsync : s.member.syncTimer = none) (hrejoin : s.member.rejoinTimer = none) (ht : s.terms ≠ none) : BlocksAgree s where
  line := ⟨fun _ => hl, fun _ => participating_of_joined hj⟩
  pool := fun h => absurd hj h
  queue := fun h => absurd (participating_of_joined hj) (by simp [h])
  counts := fun h => absurd hj h
  idle := fun h => absurd hj h
  owed := fun h => absurd hj h
  timers := ⟨fun h => absurd hj h, fun _ => hsync, fun _ => hrejoin⟩
  terms := by simp [TermsHeldOnceCommitted, ht, hj]
  latch := fun _ => hj

end Sys2Proof.Safety.BlocksAgree

namespace Sys2Proof.Machine

open Sys2Proof.Safety

namespace Works

theorem refl (s : State) : Works s s := ⟨rfl, rfl, rfl, rfl, rfl, id⟩

theorem trans {s t u : State} (h1 : Works s t) (h2 : Works t u) : Works s u :=
  ⟨h2.number.trans h1.number, h2.settings.trans h1.settings, h2.terms.trans h1.terms, h2.pool.trans h1.pool,
    h2.station.trans h1.station, h2.agrees ∘ h1.agrees⟩

theorem limit {s t : State} (h : Works s t) : t.limit = s.limit := by
  simp only [State.limit, h.terms]

theorem participating {s t : State} (h : Works s t) : t.participating = s.participating := by
  simp only [State.participating, h.station]

/-- The STOP input, the probe unit, the monitor and the port have no part in the agreement. -/
theorem outside (s : State) (i : Bool) (b : Probe) (m : Monitor) (p : Port) :
    Works s { s with stopInput := i, probe := b, monitor := m, port := p } :=
  ⟨rfl, rfl, rfl, rfl, rfl, fun b => { b with }⟩

theorem withStopInput (s : State) (x : Bool) : Works s (s.withStopInput x) := outside s x s.probe s.monitor s.port
theorem withProbe (s : State) (x : Probe) : Works s (s.withProbe x) := outside s s.stopInput x s.monitor s.port
theorem withMonitor (s : State) (x : Monitor) : Works s (s.withMonitor x) := outside s s.stopInput s.probe x s.port
theorem withPort (s : State) (x : Port) : Works s (s.withPort x) := outside s s.stopInput s.probe s.monitor x
theorem raise (s : State) (e : Event) : Works s (s.raise e) := withPort s _

theorem withPending (s : State) (x : List Instr) : Works s (s.withPending x) :=
  ⟨rfl, rfl, rfl, rfl, rfl, fun b => { b with }⟩

/-- The line controller moves among the states of a station that takes part, or stays OFF_LINE (R19, R81). -/
theorem withLine {s : State} {l : Line} (h : l.state = .offLine ↔ s.line.state = .offLine) : Works s (s.withLine l) :=
  ⟨rfl, rfl, rfl, rfl, rfl, fun b => { b with line := b.line.trans (not_congr h.symm) }⟩

/-- As `withLine`, where the controller is not OFF_LINE before or after. -/
theorem withLine_ne {s : State} {l : Line} (hs : s.line.state ≠ .offLine) (hl : l.state ≠ .offLine) : Works s (s.withLine l) :=
  withLine (by simp [hs, hl])

/-- The membership controller writes its timers, its count and the last census, within the timers of its station state (R81). -/
theorem withMember {s : State} {m : Member} (hm : m.station = s.member.station)
    (ht : TimersFollowStation s → TimersFollowStation (s.withMember m)) : Works s (s.withMember m) := by
  have hp : (s.withMember m).participating = s.participating := congrArg StationState.participates hm
  have hj : (s.withMember m).member.station ≠ .joined → s.member.station ≠ .joined := fun h e => h (hm.trans e)
  refine ⟨rfl, rfl, rfl, rfl, hm, fun b => ?_⟩
  have hline : LineFollowsStation (s.withMember m) := by rw [LineFollowsStation, hp]; exact b.line
  have hterms : TermsHeldOnceCommitted (s.withMember m) := by
    rw [TermsHeldOnceCommitted, State.member_withMember, hm]
    exact b.terms
  exact
    { line := hline
      pool := fun h => b.pool (hj h)
      queue := fun h => b.queue (hp.symm.trans h)
      counts := fun h => b.counts (hj h)
      idle := fun h => b.idle (hj h)
      owed := fun h => b.owed (hj h)
      timers := ht b.timers
      terms := hterms
      latch := fun h => hm.trans (b.latch h) }

/-- A JOINED station writes its member's timers, count and last census (R94, R99). -/
theorem withMember_joined {s : State} {m : Member} (hj : s.member.station = .joined) (hm : m.station = s.member.station)
    (hsync : m.syncTimer = s.member.syncTimer) (hrejoin : m.rejoinTimer = s.member.rejoinTimer) : Works s (s.withMember m) := by
  refine withMember hm fun ⟨_, hsyncStopped, hrejoinStopped⟩ => ⟨fun hn => absurd (hm.trans hj) hn, fun _ => ?_, fun _ => ?_⟩
  · exact hsync.trans (hsyncStopped (by simp [hj]))
  · exact hrejoin.trans (hrejoinStopped (by simp [hj]))

/-- A SYNCING station writes its sync timer, its count and the last census (R90, R91, R100). -/
theorem withMember_syncing {s : State} {m : Member} (hs : s.member.station = .syncing) (hm : m.station = s.member.station)
    (hcensus : m.censusTimer = s.member.censusTimer) (hsilence : m.silenceTimer = s.member.silenceTimer)
    (hrejoin : m.rejoinTimer = s.member.rejoinTimer) : Works s (s.withMember m) := by
  refine withMember hm fun ⟨hjoinedStopped, _, hrejoinStopped⟩ =>
    ⟨fun _ => ?_, fun hn => absurd (hm.trans hs) hn, fun _ => ?_⟩
  · obtain ⟨hcensusStopped, hsilenceStopped⟩ := hjoinedStopped (by simp [hs])
    exact ⟨hcensus.trans hcensusStopped, hsilence.trans hsilenceStopped⟩
  · exact hrejoin.trans (hrejoinStopped (by simp [hs]))

/-- The channel controller's operations: ordinary work at a JOINED station, and at another where they find nothing to do. -/
theorem of_channelWrites {s t : State} (h : ChannelWrites s t) (hr : BlocksAgree s → s.member.station ≠ .joined → t = s) :
    Works s t := by
  obtain ⟨hnumber, hsettings, hterms, -, hpool, hmember, -, -, hline⟩ := h
  refine ⟨hnumber, hsettings, hterms, hpool, congrArg Member.station hmember, fun b => ?_⟩
  by_cases hj : s.member.station = .joined
  · have hstate : t.line.state = s.line.state := by rw [← hline]
    apply BlocksAgree.of_joined
    · rw [hmember, hj]
    · rw [hstate]; exact b.line.mp (participating_of_joined hj)
    · rw [hmember]; exact b.syncTimer_none (by simp [hj])
    · rw [hmember]; exact b.rejoinTimer_none (by simp [hj])
    · rw [hterms]; exact b.terms_ne_none (by simp [hj])
  · rwa [hr b hj]

theorem of_joined {s t : State} (hj : s.member.station = .joined) (h : ChannelWrites s t) : Works s t :=
  of_channelWrites h fun _ hn => absurd hj hn

end Works

/-! ### The transmit queue of a station whose channels rest -/

/-- A channel's slot that is empty in `q` is empty in `r`. -/
def KeepsSlotsEmpty (q r : TxQueue) : Prop := ∀ c : ChanNo, q.entryOf (.channel c) = none → r.entryOf (.channel c) = none

namespace KeepsSlotsEmpty

theorem refl (q : TxQueue) : KeepsSlotsEmpty q q := fun _ h => h

theorem trans {q r x : TxQueue} (h1 : KeepsSlotsEmpty q r) (h2 : KeepsSlotsEmpty r x) : KeepsSlotsEmpty q x :=
  fun c h => h2 c (h1 c h)

/-- Every owner of an entry of `r` owns one of `q`, channels at least. -/
theorem of_owners {q r : TxQueue}
    (h : ∀ e ∈ r.entries, ∀ c : ChanNo, e.owner = .channel c → ∃ d ∈ q.entries, d.owner = .channel c) : KeepsSlotsEmpty q r := by
  intro c hq
  rw [TxQueue.entryOf_none] at hq ⊢
  intro e he ho
  obtain ⟨d, hd, hdo⟩ := h e he c ho
  exact hq d hd hdo

/-- The line actions, the owed STOP and the deferred raise are no channel's. -/
theorem of_entries {q r : TxQueue} (h : r.entries = q.entries) : KeepsSlotsEmpty q r :=
  of_owners fun e he _ ho => ⟨e, h ▸ he, ho⟩

theorem of_subset {q r : TxQueue} (h : r.entries ⊆ q.entries) : KeepsSlotsEmpty q r := of_owners fun e he _ ho => ⟨e, h he, ho⟩

/-- Entries are rewritten one by one, each keeping its owner. -/
theorem of_map {q r : TxQueue} {f : Entry → Entry} (h : r.entries = q.entries.map f) (hf : ∀ e, (f e).owner = e.owner) :
    KeepsSlotsEmpty q r := by
  refine of_owners fun e he c ho => ?_
  rw [h] at he
  obtain ⟨d, hd, rfl⟩ := List.mem_map.mp he
  exact ⟨d, hd, (hf d).symm.trans ho⟩

theorem place (q : TxQueue) {o : Owner} (ho : ∀ c, o ≠ .channel c) (k : Content) : KeepsSlotsEmpty q (q.place o k) := by
  rw [TxQueue.place_eq]
  split
  · refine of_owners fun e he c hc => ?_
    rcases List.mem_append.mp he with he | he
    · exact ⟨e, he, hc⟩
    · rw [List.mem_singleton.mp he] at hc
      exact absurd hc (ho c)
  · exact refl q

theorem rewrite (q : TxQueue) (o : Owner) (k : Content) : KeepsSlotsEmpty q (q.rewrite o k) :=
  of_map rfl fun e => by split <;> rfl

theorem markOnLine (q : TxQueue) (o : Owner) : KeepsSlotsEmpty q (q.markOnLine o) :=
  of_map rfl fun e => by split <;> rfl

theorem bump (q : TxQueue) (o : Owner) : KeepsSlotsEmpty q (q.bump o) :=
  of_map rfl fun e => by split <;> rfl

theorem removeUnsent (q : TxQueue) (o : Owner) : KeepsSlotsEmpty q (q.removeUnsent o) := of_subset (List.filter_subset_self _)

theorem removeAccepted (q : TxQueue) : KeepsSlotsEmpty q (removeAccepted q) := of_subset (List.filter_subset_self _)

theorem sagRaise (s : State) : KeepsSlotsEmpty s.queue (sagRaise s).queue := by
  have hrewrite : KeepsSlotsEmpty s.queue (s.rewrite .shed (.shed .raise s.pool.level)).queue := rewrite s.queue _ _
  unfold Machine.sagRaise
  split
  · exact refl _
  split
  · exact place s.queue (by simp) _
  split
  · exact of_entries rfl
  split
  · split
    · exact refl _
    · exact hrewrite
  · exact hrewrite

theorem settleRaise (s : State) : KeepsSlotsEmpty s.queue (settleRaise s).queue := by
  unfold Machine.settleRaise
  split
  · exact trans (r := { s.queue with deferredRaise := false }) (of_entries rfl) (sagRaise (s.withQueue _))
  · exact refl _

theorem reportAccepted (own : Bool) (s : State) : KeepsSlotsEmpty s.queue (reportAccepted own s).queue := by
  unfold Machine.reportAccepted
  split
  · exact (removeAccepted s.queue).trans (settleRaise (s.withQueue _))
  · exact refl _

theorem withdrawCensus (q : TxQueue) : KeepsSlotsEmpty q (withdrawCensus q) := by
  unfold Machine.withdrawCensus
  split
  · exact refl q
  · split
    · exact refl q
    · exact of_entries rfl

theorem setCensus (q : TxQueue) (m : CensusMode) : KeepsSlotsEmpty q (setCensus q m) := by
  unfold Machine.setCensus
  split
  · exact of_entries rfl
  · exact refl q

theorem setOnLine (q : TxQueue) (c : Carrier) : KeepsSlotsEmpty q (setOnLine q c) := by
  cases c with
  | stop => exact of_entries rfl
  | census => exact of_entries rfl
  | entry o => exact markOnLine q o

end KeepsSlotsEmpty

namespace Works

/-- A station that takes part writes its queue, and places no channel's frame. -/
theorem withQueue {s : State} {q : TxQueue} (hp : BlocksAgree s → s.participating = true) (hq : KeepsSlotsEmpty s.queue q) :
    Works s (s.withQueue q) := by
  refine ⟨rfl, rfl, rfl, rfl, rfl, fun b =>
    { b with queue := fun h => ?_, owed := fun hj => ⟨b.startQueue_nil hj, fun c => ?_⟩ }⟩
  · exact absurd ((hp b).symm.trans h) (by decide)
  · exact ⟨slotEmpty_iff.mpr (hq c (slotEmpty_iff.mp (b.slot_empty hj c))), (b.channelRests hj c).followUp⟩

theorem reportAccepted {s : State} (hl : s.line.state ≠ .offLine) (own : Bool) : Works s (reportAccepted own s) := by
  rw [reportAccepted_frame]
  exact withQueue (BlocksAgree.participating · hl) (.reportAccepted own s)

theorem withdrawCensus {s : State} (hl : s.line.state ≠ .offLine) : Works s (s.withQueue (withdrawCensus s.queue)) :=
  withQueue (BlocksAgree.participating · hl) (.withdrawCensus s.queue)

end Works

/-! ### Channel records -/

/-- The channel controller of a station that is not JOINED: its records rest, with the start queue and the latch as they were. -/
theorem Works.withChan {s : State} {x : ChanCtl} (hq : x.startQueue = s.chan.startQueue) (hl : x.latch = s.chan.latch)
    (hx : BlocksAgree s → s.member.station ≠ .joined → ∀ c : ChanNo, ChannelRests ((s.withChan x).channel c)) :
    Works s (s.withChan x) := by
  refine ⟨rfl, rfl, rfl, rfl, rfl, fun b => { b with counts := ?_, idle := ?_, owed := ?_, latch := fun h => b.latch (hl ▸ h) }⟩
  · exact fun hj c => (hx b hj c).counted
  · exact fun hj c => (hx b hj c).state
  · exact fun hj => ⟨hq.trans (b.startQueue_nil hj), fun c => ⟨b.slot_empty hj c, (hx b hj c).followUp⟩⟩

/-- One channel record is written by one that rests, where the station is not JOINED. -/
theorem Works.setChannel {s : State} {c : ChanNo} {x : Channel}
    (hx : BlocksAgree s → s.member.station ≠ .joined → ChannelRests (s.channel c) → ChannelRests x) :
    Works s (s.setChannel c x) := by
  refine Works.withChan rfl rfl fun b hj d => ?_
  change ChannelRests ((s.setChannel c x).channel d)
  by_cases hd : d = c
  · rw [hd, State.channel_setChannel_self]
    exact hx b hj (b.channelRests hj c)
  · rw [State.channel_setChannel_of_ne s hd]
    exact b.channelRests hj d

end Sys2Proof.Machine
end

section
/-! The larger moves of a station, and that every command is ordinary work with at most one of them. -/

namespace Sys2Proof.Machine

open Sys2Proof.Safety Sys2Proof.Obl

/-! ### The larger moves -/

/-- What a command can do to a station beyond ordinary work: a reset, a configuration request, a passage of the station state, or
a change of the pool engine at a member. -/
inductive StationMove (c : Instr) (s : State) : State → Prop
  | hardReset (p : PinSample) (hc : c = .powerOn p ∨ c = .pinReset p) : StationMove c s (hardReset p s)
  | softReset (bits : Nat) (die : Int) (vs : Nat) (hc : c = .transactionEnd (.rise bits) die vs) :
    StationMove c s (softReset die vs s)
  | setItem (i : Byte) (v : BitVec 16) (st : Settings) (hc : c = .setItem i v) (hs : s.member.station = .unconfigured) :
    StationMove c s (s.withSettings st)
  | commit (hc : c = .commit) (hs : s.member.station = .unconfigured) : StationMove c s (committed s)
  | enterJoining (hs : s.member.station = .ready ∨ s.member.station = .isolated) : StationMove c s (enterJoining s)
  | enterSyncing (hs : s.member.station = .joining) : StationMove c s (enterSyncing s)
  | adopt (n : StationNo) (t : Terms) (p : Pool) (hc : c = .snapshot n t p) (hs : s.member.station = .syncing)
    (ht : s.terms = some t) : StationMove c s (adopt s p)
  | found (m : Maps) (hc : changesPool c = true) (hs : s.member.station = .syncing) : StationMove c s (found s m)
  | isolate (r : IsoReason) (hp : s.participating = true) : StationMove c s (isolate s r)
  | changePool (q : Pool) (hc : changesPool c = true) (hs : s.member.station = .joined) (hq : PoolChange s.limit s.pool q) :
    StationMove c s (s.withPool q)

/-- Ordinary work, or one larger move between two pieces of it. -/
def Moves (c : Instr) (s t : State) : Prop := Works s t ∨ ∃ u v, Works s u ∧ StationMove c u v ∧ Works v t

namespace Moves

variable {c : Instr} {s t u : State}

theorem work (h : Works s t) : Moves c s t := .inl h

theorem refl (c : Instr) (s : State) : Moves c s s := work (.refl s)

theorem move (h : StationMove c s t) : Moves c s t := .inr ⟨s, t, .refl s, h, .refl t⟩

theorem after (h1 : Works s t) (h2 : Moves c t u) : Moves c s u := by
  rcases h2 with h2 | ⟨x, y, hx, hm, hy⟩
  · exact work (h1.trans h2)
  · exact .inr ⟨x, y, h1.trans hx, hm, hy⟩

theorem andThen (h1 : Moves c s t) (h2 : Works t u) : Moves c s u := by
  rcases h1 with h1 | ⟨x, y, hx, hm, hy⟩
  · exact work (h1.trans h2)
  · exact .inr ⟨x, y, hx, hm, hy.trans h2⟩

/-- A station that does not participate is not isolated (R104). -/
theorem isolate (c : Instr) (s : State) (r : IsoReason) : Moves c s (isolate s r) := by
  cases hp : s.participating
  · rw [isolate_of_not_participating hp]
    exact refl c s
  · exact move (.isolate r hp)

/-- The pool change comes first, and the outcomes at the channels follow (R57). -/
theorem changePool {q : Pool} (hc : changesPool c = true) (hs : s.member.station = .joined) (hq : PoolChange s.limit s.pool q)
    (ht : ChannelWrites (s.withPool q) t) : Moves c s t :=
  (move (.changePool q hc hs hq)).andThen (.of_joined hs ht)

end Moves

/-- Every next state that the result holds is a move away. -/
def Reaches (c : Instr) (s : State) (r : Result) : Prop := ∀ t, r = .next t → Moves c s t

namespace Reaches

variable {c : Instr} {s t : State}

theorem next (h : Moves c s t) : Reaches c s (.next t) := by
  intro u hu
  cases hu
  exact h

theorem work (h : Works s t) : Reaches c s (.next t) := next (.work h)

theorem answered (h : Moves c s t) (o : ReqOutcome) (v : BitVec 16) : Reaches c s (.next (answered s t o v)) :=
  next (h.andThen (.withPort t _))

theorem refuse (c : Instr) (s : State) (o : ReqOutcome) : Reaches c s (refuse s o) := answered (.refl c s) o 0

theorem accept (h : Moves c s t) : Reaches c s (accept s t) := answered h .accepted 0

theorem acceptValue (h : Moves c s t) (v : BitVec 16) : Reaches c s (acceptValue s t v) := answered h .accepted v

theorem request {r : Result} (h : Reaches c s r) : Reaches c s (request s r) := by
  unfold Machine.request
  split
  · exact next (.refl c s)
  · exact h

end Reaches

/-! ### The channel controller's further operations -/

namespace ChannelWrites

theorem of_queue {s t : State} (h : t = { s with queue := t.queue }) : ChannelWrites s t := by
  rw [h]
  exact refl s

theorem ite {s t u : State} {p : Prop} [Decidable p] (ht : ChannelWrites s t) (hu : ChannelWrites s u) :
    ChannelWrites s (if p then t else u) := by
  split
  · exact ht
  · exact hu

theorem reportAccepted (own : Bool) (s : State) : ChannelWrites s (reportAccepted own s) := of_queue (reportAccepted_frame own s)

theorem coverStop (own : Bool) (a : Option StationNo) (s : State) : ChannelWrites s (coverStop own a s) := by
  unfold Machine.coverStop
  split
  · exact refl s
  · exact withQueue s _

theorem withdrawSnapshot (s : State) : ChannelWrites s (withdrawSnapshot s) := by
  unfold Machine.withdrawSnapshot
  split
  · split
    · exact dropEntry s _
    · exact refl s
  · exact refl s

theorem startChannel (s : State) (c : ChanNo) (r : StartRequest) : ChannelWrites s (startChannel s c r) := by
  unfold Machine.startChannel
  dsimp only
  split
  · exact (setChannel s c _).trans (joinProbe _ c)
  · exact (setChannel s c _).trans (placeClaim _ c r)

theorem setLatch (s : State) : ChannelWrites s (setLatch s) := (withChan s _).trans (withQueue _ _)

theorem probePassed (s : State) (c : ChanNo) : ChannelWrites s (probePassed s c) := by
  unfold Machine.probePassed
  dsimp only
  split
  · exact (setChannel s c _).trans (placeClaim _ c _)
  · exact refl s

theorem inrushOver (s : State) (c : ChanNo) : ChannelWrites s (inrushOver s c) := by
  unfold Machine.inrushOver
  dsimp only
  split
  · exact (updChannel s c _).trans (place _ _ _)
  · exact updChannel s c _

theorem openLoadFound (s : State) (c : ChanNo) (x : Nat) : ChannelWrites s (openLoadFound s c x) := by
  unfold Machine.openLoadFound
  split
  · exact (writeRecord s c _ _ _ _).trans (updChannel _ c _)
  · exact (writeRecord s c _ _ _ _).trans (faultChannel _ c)

end ChannelWrites

/-! ### Channels that rest -/

theorem leaveService_of_rests {s : State} {c : ChanNo} (h : ChannelRests (s.channel c)) : leaveService s c = s := by
  unfold leaveService
  rcases h.state with hs | hs | hs <;> simp only [hs]

theorem retireChannel_of_rests {s : State} {c : ChanNo} (h : ChannelRests (s.channel c)) (r : Reason) :
    retireChannel r s c = s := by
  simp [retireChannel, h.not_inService]

theorem retire_of_rests {s : State} (h : ∀ c : ChanNo, ChannelRests (s.channel c)) (r : Reason) : retire s r = s := by
  have hfold : ∀ l : List ChanNo, l.foldl (retireChannel r) s = s := by
    intro l
    induction l with
    | nil => rfl
    | cons c l ih => rw [List.foldl_cons, retireChannel_of_rests (h c), ih]
  exact hfold allChannels

namespace Works

theorem leaveService (s : State) (c : ChanNo) : Works s (leaveService s c) :=
  of_channelWrites (.leaveService s c) fun b hj => leaveService_of_rests (b.channelRests hj c)

theorem retire (s : State) (r : Reason) : Works s (retire s r) :=
  of_channelWrites (.retire s r) fun b hj => retire_of_rests (b.channelRests hj) r

theorem updChannel {s : State} {c : ChanNo} {f : Channel → Channel} (hf : ∀ x, ChannelRests x → ChannelRests (f x)) :
    Works s (s.updChannel c f) :=
  setChannel fun _ _ h => hf _ h

theorem startHead (s : State) : Works s (startHead s) :=
  of_channelWrites (.startHead s) fun b hj => by simp [Machine.startHead, b.startQueue_nil hj]

theorem settleSpoil (s : State) (c : ChanNo) : Works s (settleSpoil s c) :=
  of_channelWrites (.settleSpoil s c) fun b hj => by
    have hfollow := (b.channelRests hj c).followUp
    unfold Machine.settleSpoil
    dsimp only
    rw [hfollow]
    rfl

theorem probePassed (s : State) (c : ChanNo) : Works s (probePassed s c) := by
  refine of_channelWrites (.probePassed s c) fun b hj => ?_
  unfold Machine.probePassed
  rcases (b.channelRests hj c).state with hs | hs | hs <;> simp only [hs]

/-- A fault record is written beside the state, the units and the follow-up (R142, R145). -/
theorem writeRecord (s : State) (c : ChanNo) (k : FaultKind) (b : Bool) (v : Nat) (found : ChState) :
    Works s (writeRecord s c k b v found) := by
  have hput : ∀ r : FaultRecord, Works s ((s.updChannel c fun x => { x with fault := some r }).raise (.fault c)) :=
    fun r => (updChannel (f := fun x => { x with fault := some r }) fun _ h => h.congr rfl rfl rfl).trans (raise _ _)
  unfold Machine.writeRecord
  dsimp only
  split
  · exact hput _
  split
  · exact refl s
  split
  · exact hput _
  · exact hput _

theorem clearFault (s : State) (c : ChanNo) : Works s (clearFault s c) := by
  refine setChannel fun b hj h => ?_
  obtain ⟨hcounted, hstate, hfollow⟩ := h
  refine ⟨hcounted, ?_, hfollow⟩
  dsimp only
  split
  · rw [if_pos ⟨b.slot_empty hj c, hfollow, hcounted⟩]
    exact .inl rfl
  · exact hstate

theorem probeFailed (s : State) (c : ChanNo) (k : FaultKind) (n : Nat) : Works s (probeFailed s c k n) :=
  ((updChannel (f := fun x => { x with state := .faulted, counted := 0, startReq := none })
    fun _ h => ⟨rfl, .inr (.inr rfl), h.followUp⟩).trans (writeRecord _ c k true n .probing)).trans (raise _ _)

end Works

/-! ### The line controller -/

theorem lineAfter_ne {l : Line} {st : LineState} (h : st ≠ .offLine) : (lineAfter l st).state ≠ .offLine := by
  rw [lineAfter_state]
  split
  · decide
  · exact h

/-- A controller that is OFF_LINE hears no frame (R19). -/
theorem frameRole_offLine {s : State} (h : s.line.state = .offLine) (n : StationNo) (f : Frame) : frameRole s n f = .unheard := by
  unfold frameRole
  split
  · rfl
  · rw [h]

theorem censusRole_offLine {s : State} (h : s.line.state = .offLine) (n : StationNo) (x : CensusHeader) :
    censusRole s n x = .unheard := by
  unfold censusRole
  rw [h]
  exact frameRole_offLine h n _

namespace Works

variable {s : State}

theorem enterHolding (hl : s.line.state ≠ .offLine) : Works s (enterHolding s) := withLine_ne hl (lineAfter_ne (by decide))

theorem backToIdle (hl : s.line.state ≠ .offLine) : Works s (backToIdle s) := withLine_ne hl (lineAfter_ne (by decide))

theorem quietLine (s : State) : Works s (quietLine s) := by
  unfold Machine.quietLine
  split
  · rename_i h
    exact backToIdle (by rw [h.1]; decide)
  · exact refl s

theorem opportunity (hl : s.line.state ≠ .offLine) (edge : StartEdge) : Works s (opportunity s edge) := by
  unfold Machine.opportunity
  split
  · exact withLine_ne hl (by simp)
  · exact withLine_ne hl (by simp)
  · exact refl s
  · exact withLine_ne hl (by simp)
  · exact withLine_ne hl (by simp)

theorem winArbitration (hl : s.line.state ≠ .offLine) : Works s (winArbitration s) := by
  unfold Machine.winArbitration
  split
  · exact (withQueue (BlocksAgree.participating · hl) (.setOnLine s.queue _)).trans (withLine_ne hl (by simp))
  · exact withLine_ne hl (by simp)

theorem settleOwner (hl : s.line.state ≠ .offLine) (o : Owner) : Works s (settleOwner s o) := by
  cases o with
  | shed =>
    change Works s (settleRaise s)
    rw [settleRaise_frame]
    exact withQueue (BlocksAgree.participating · hl) (.settleRaise s)
  | channel c => exact settleSpoil s c
  | membership => exact refl s
  | go => exact refl s
  | note => exact refl s

end Works

namespace Moves

variable {c : Instr} {s : State}

/-- A failed attempt counts and settles what is owed, or isolates (R30, R31). -/
theorem failedAttempt (hl : s.line.state ≠ .offLine) (x : Carrier) : Moves c s (failedAttempt s x) := by
  have haction : ∀ q : TxQueue, q.entries = s.queue.entries → Moves c s (s.withQueue q) :=
    fun q hq => work (.withQueue (BlocksAgree.participating · hl) (.of_entries hq))
  unfold Machine.failedAttempt
  cases x with
  | stop =>
    dsimp only
    split
    · exact refl c s
    split
    · exact haction _ rfl
    · exact isolate c s _
  | census =>
    dsimp only
    split
    · exact refl c s
    split
    · exact haction _ rfl
    · exact isolate c s _
  | entry o =>
    dsimp only
    split
    · exact refl c s
    split
    · exact after (.withQueue (BlocksAgree.participating · hl) (.bump s.queue o))
        (work (.settleOwner (s := s.withQueue (s.queue.bump o)) hl o))
    · exact isolate c s _

theorem failCarried (hl : s.line.state ≠ .offLine) (x : Option Carrier) : Moves c s (failCarried s x) := by
  cases x with
  | none => exact refl c s
  | some x => exact failedAttempt hl x

/-- A malformed frame ends at a controller that may have sent it (R26, R30). -/
theorem failCarried_idle (hl : s.line.state ≠ .offLine) (x : Option Carrier) : Moves c s (Machine.failCarried (backToIdle s) x) :=
  after (.backToIdle hl) (failCarried (lineAfter_ne (by decide)) x)

end Moves

end Sys2Proof.Machine
end

section
/-! Accepted frames (spec/04_claims_releases_and_the_wait_list.md R57 to R78; spec/05_membership_and_census.md R84 to R100): what
each comes to at a station that takes part in it. -/

namespace Sys2Proof.Machine

open Sys2Proof.Safety Sys2Proof.Obl

/-- An accepted frame is the end of a frame, then its effect at the station that took it in. -/
theorem Reaches.acceptFrame {c : Instr} {s : State} {role : FrameRole} {effect : Bool → State → State}
    (hrole : s.line.state = .offLine → role = .unheard)
    (heffect : ∀ (own : Bool) (u : State), u.line.state ≠ .offLine → Moves c u (effect own u)) :
    Reaches c s (acceptFrame s role effect) := by
  have heard : role ≠ .unheard → s.line.state ≠ .offLine := fun h ho => h (hrole ho)
  have hholding : (enterHolding s).line.state ≠ .offLine := lineAfter_ne (by decide)
  cases role with
  | own => exact next (.after (.enterHolding (heard (by decide))) (heffect true _ hholding))
  | peer => exact next (.after (.enterHolding (heard (by decide))) (heffect false _ hholding))
  | bystander => exact work (.backToIdle (heard (by decide)))
  | unheard => exact next (.refl c s)

variable {c : Instr} {s : State} {own : Bool}

/-- A frame that only a JOINED station applies (R16, R57). -/
theorem ifJoined_moves {t : State} (hl : s.line.state ≠ .offLine) (h : s.member.station = .joined → Moves c s t) :
    Moves c s (ifJoined own s t) := by
  unfold ifJoined
  split
  · rename_i hj
    exact h (of_decide_eq_true hj)
  · exact .work (.reportAccepted hl own)

/-! ### The pool engine's frames -/

theorem claimEffect_moves (hc : changesPool c = true) (n : StationNo) (d : ChanNo) (k : PriClass) (u : Nat) (g : GroupNo)
    (w : Bool) (hl : s.line.state ≠ .offLine) : Moves c s (claimEffect n d k u g w own s) := by
  refine ifJoined_moves hl fun hj => .changePool hc hj (.claim n d k u g w) ?_
  exact (ChannelWrites.reportAccepted own _).trans (.trans (.ite (.claimOutcome _ d u g _) (.refl _)) (.grantOutcomes _ _))

theorem releaseEffect_moves {change : State → Pool × List WaitEntry} (hc : changesPool c = true)
    (hq : PoolChange s.limit s.pool (change s).1) (n : StationNo) (d : ChanNo) (u : Nat) (f : ReleaseForm)
    (hl : s.line.state ≠ .offLine) : Moves c s (releaseEffect change n d u f own s) := by
  refine ifJoined_moves hl fun hj => .changePool hc hj hq ?_
  exact (ChannelWrites.reportAccepted own _).trans (.trans (.ite (.releaseOutcome _ d u f) (.refl _)) (.grantOutcomes _ _))

theorem shedSetEffect_moves (hc : changesPool c = true) (l : ShedLevel) (hl : s.line.state ≠ .offLine) :
    Moves c s (shedSetEffect l own s) := by
  refine ifJoined_moves hl fun hj => .changePool hc hj (.shedSet l) ?_
  exact (ChannelWrites.reportAccepted own _).trans
    (.trans (.ite (.shedOutcome _ l) (.refl _)) (.trans (.grantOutcomes _ _) (.ite (.raise _ .shed) (.refl _))))

theorem shedRaiseEffect_moves (hc : changesPool c = true) (p : ShedLevel) (hl : s.line.state ≠ .offLine) :
    Moves c s (shedRaiseEffect p own s) := by
  unfold shedRaiseEffect
  split
  · exact shedSetEffect_moves hc (p + 1) hl
  · exact .work (.reportAccepted hl own)

theorem stopAllEffect_moves (hc : changesPool c = true) (hl : s.line.state ≠ .offLine) : Moves c s (stopAllEffect own s) :=
  ifJoined_moves hl fun hj => .changePool hc hj .stopAll
    ((ChannelWrites.reportAccepted own _).trans
      (.trans (.coverStop own none _) (.trans (.stoppedOutcome _ true) (.grantOutcomes _ _))))

theorem stopStationEffect_moves (hc : changesPool c = true) (n : StationNo) (hl : s.line.state ≠ .offLine) :
    Moves c s (stopStationEffect n own s) := by
  refine ifJoined_moves hl fun hj => .changePool hc hj (.stopStation n) ?_
  exact (ChannelWrites.reportAccepted own _).trans
    (.trans (.coverStop own (some n) _) (.trans (.ite (.stoppedOutcome _ false) (.refl _)) (.grantOutcomes _ _)))

/-- A GO and a NOTE leave the pool state as it was (R71, R78). -/
theorem goEffect_moves (g : GroupNo) (hl : s.line.state ≠ .offLine) : Moves c s (goEffect g own s) :=
  ifJoined_moves hl fun hj =>
    have hgo := Works.of_joined hj ((ChannelWrites.reportAccepted own s).trans (.goOutcome _ g))
    .work ((hgo.trans (.withMonitor _ _)).trans (.raise _ _))

theorem noteEffect_moves (n : Note) (hl : s.line.state ≠ .offLine) : Moves c s (noteEffect n own s) := by
  refine ifJoined_moves hl fun _ => .after (.reportAccepted hl own) (.work ?_)
  split
  · split
    · exact (Works.withPort _ _).trans (.raise _ _)
    · exact .withLine Iff.rfl
  · exact .refl _

/-! ### JOIN and SNAPSHOT -/

theorem memberJoin_moves (hc : changesPool c = true) (hj : s.member.station = .joined) (n : StationNo) (t : Terms) :
    Moves c s (memberJoin n t s) := by
  unfold memberJoin
  split
  · exact .isolate c s _
  split
  · exact .changePool hc hj (.join n) ((ChannelWrites.grantOutcomes _ _).trans (.place _ _ _))
  · exact .work (.of_joined hj (.place _ _ _))

theorem joinEffect_moves (hc : changesPool c = true) (n : StationNo) (t : Terms) (hl : s.line.state ≠ .offLine) :
    Moves c s (joinEffect n t own s) := by
  have hreported := Works.reportAccepted hl own
  unfold joinEffect
  split
  case h_1 hs =>
    split
    · have hown := Works.reportAccepted hl true
      exact .after hown (.move (.enterSyncing (hown.station.trans hs)))
    · exact .refl c s
  case h_2 hs => exact .after hreported (memberJoin_moves hc (hreported.station.trans hs) n t)
  all_goals exact .work hreported

theorem snapshotEffect_moves (n : StationNo) (t : Terms) (p : Pool) (hl : s.line.state ≠ .offLine) :
    Moves (.snapshot n t p) s (snapshotEffect t p own s) := by
  have hreported := Works.reportAccepted hl own
  unfold snapshotEffect
  split
  case h_1 hs =>
    refine .after hreported ?_
    unfold syncingSnapshot
    split
    · exact .isolate _ _ _
    rename_i ht
    split
    · exact .move (.adopt n t p rfl (hreported.station.trans hs) (not_not.mp ht))
    · exact .refl _ _
  case h_2 hs =>
    split
    · exact .work (.reportAccepted hl true)
    · exact .work (.of_joined hs (.withdrawSnapshot s))
  all_goals exact .work hreported

/-! ### CENSUS -/

theorem keepCensus_works (hj : s.member.station = .joined) (m : Maps) : Works s (keepCensus s m) :=
  .withMember_joined hj rfl rfl rfl

theorem memberCounts_moves (hc : changesPool c = true) (hj : s.member.station = .joined) (h : CensusHeader) (m : Maps) :
    Moves c s (memberCounts s h m) := by
  unfold memberCounts
  split
  · exact .work (keepCensus_works hj m)
  · have hgrants := ChannelWrites.grantOutcomes (s.withPool (applyMisses s.limit s.pool m.joined).1)
      (applyMisses s.limit s.pool m.joined).2
    have hstation := (Works.of_joined (s := s.withPool (applyMisses s.limit s.pool m.joined).1) hj hgrants).station
    exact (Moves.changePool hc hj (.misses m.joined) hgrants).andThen (keepCensus_works (hstation.trans hj) m)

theorem memberCensus_moves (hc : changesPool c = true) (hj : s.member.station = .joined) (h : CensusHeader) (m : Maps) :
    Moves c s (memberCensus own s h m) := by
  have htimer : Works s (s.withMember { s.member with censusTimer := some s.interval }) :=
    .withMember_joined hj rfl rfl rfl
  refine .after htimer ?_
  unfold memberCensus
  have hj1 : (s.withMember { s.member with censusTimer := some s.interval }).member.station = .joined := hj
  dsimp only at hj1 ⊢
  generalize s.withMember _ = u at hj1 ⊢
  split
  · exact .isolate _ _ _
  split
  · split
    · exact .isolate _ _ _
    · exact .refl _ _
  split
  · exact .isolate _ _ _
  · exact memberCounts_moves hc hj1 h m

theorem syncingCensus_moves (hc : changesPool c = true) (hs : s.member.station = .syncing) (h : CensusHeader) (m : Maps) :
    Moves c s (syncingCensus s h m) := by
  refine .after (.withMember_syncing hs (m := { s.member with syncTimer := some s.interval }) rfl rfl rfl rfl) ?_
  unfold syncingCensus
  have hs1 : (s.withMember { s.member with syncTimer := some s.interval }).member.station = .syncing := hs
  dsimp only at hs1 ⊢
  generalize s.withMember _ = u at hs1 ⊢
  split
  · exact .refl _ _
  split
  · split
    · exact .move (.found m hc hs1)
    · exact .work (.withMember_syncing hs1 rfl rfl rfl rfl)
  refine .after (.withMember_syncing hs1 (m := { u.member with lastCensus := m }) rfl rfl rfl rfl) ?_
  have hs2 : (u.withMember { u.member with lastCensus := m }).member.station = .syncing := hs1
  dsimp only at hs2 ⊢
  generalize u.withMember _ = x at hs2 ⊢
  split
  · exact .work (.withMember_syncing hs2 rfl rfl rfl rfl)
  · exact .isolate _ _ _

theorem censusEffect_moves (hc : changesPool c = true) (h : CensusHeader) (m : Maps) (hl : s.line.state ≠ .offLine) :
    Moves c s (censusEffect h m own s) := by
  have hreported := Works.reportAccepted hl own
  have hline : (reportAccepted own s).line = s.line := by rw [reportAccepted_frame]
  have hwithdrawn := hreported.trans (.withdrawCensus (by rwa [hline]))
  unfold censusEffect
  refine .after hwithdrawn ?_
  dsimp only
  split
  case h_1 hs => exact memberCensus_moves hc (hwithdrawn.station.trans hs) h m
  case h_2 hs => exact syncingCensus_moves hc (hwithdrawn.station.trans hs) h m
  all_goals exact .refl _ _

end Sys2Proof.Machine
end

section
/-! Every command by its meaning: the next state it answers is a move away. -/

namespace Sys2Proof.Machine

open Sys2Proof.Safety Sys2Proof.Obl

variable {c : Instr}

/-! ### Resets and transactions -/

theorem execTransactionEnd_reaches (edge : CsnEdge) (die : Int) (vs : Nat) (s : State) :
    Reaches (.transactionEnd edge die vs) s (execTransactionEnd edge die vs s) := by
  unfold execTransactionEnd
  refine .next ?_
  split
  · exact .refl _ s
  · exact .work (.withPort s _)
  · exact .work (.withPort s _)
  · unfold csnRises
    dsimp only
    split
    · split
      · exact .move (.softReset _ die vs rfl)
      · exact .work (.withPort s _)
    · exact .work ((Works.withPort s _).trans (.raise _ _))

theorem execUnknown_reaches (code : Byte) (s : State) : Reaches c s (execUnknown code s) := by
  unfold execUnknown
  split
  · exact .next (.refl c s)
  · exact .request (.refuse c s _)

/-! ### Configuration and membership requests -/

theorem execSetItem_reaches (i : Byte) (v : BitVec 16) (s : State) : Reaches (.setItem i v) s (execSetItem i v s) := by
  refine .request ?_
  split
  · exact .refuse _ s _
  rename_i hs
  split
  · exact .refuse _ s _
  · exact .accept (.move (.setItem i v _ rfl (not_not.mp hs)))

theorem execCommit_reaches (s : State) : Reaches .commit s (execCommit s) := by
  refine .request ?_
  split
  · exact .refuse _ s _
  rename_i hs
  split
  · exact .answered (.refl _ s) _ _
  · exact .accept (.move (.commit rfl (not_not.mp hs)))

theorem execStart_reaches (s : State) : Reaches c s (execStart s) := by
  refine .request ?_
  split
  · rename_i hs
    exact .accept (.move (.enterJoining hs))
  · exact .refuse _ s _

/-! ### Channel requests -/

/-- ON and ARM are taken at a JOINED station only (R111). -/
theorem joined_of_startRefusal {s : State} {d : ChanNo} {arm : Bool} (h : startRefusal s d arm = none) :
    s.member.station = .joined := by
  unfold startRefusal at h
  split at h
  · cases h
  split at h
  · cases h
  · rename_i hs
    exact not_not.mp hs

theorem startRequest_reaches (arm : Bool) (i : Byte) (v : BitVec 16) (s : State) : Reaches c s (startRequest arm i v s) := by
  unfold startRequest
  split
  · split
    · exact .refuse _ s _
    · rename_i hs
      exact .accept (.work (.of_joined (joined_of_startRefusal hs) (.startChannel s _ _)))
  · exact .refuse _ s _

theorem execOff_reaches (i : Byte) (s : State) : Reaches c s (execOff i s) := by
  refine .request ?_
  split
  · exact .refuse _ s _
  split
  · exact .refuse _ s _
  · exact .accept (.work (.leaveService s _))

theorem execClearFault_reaches (i : Byte) (s : State) : Reaches c s (execClearFault i s) := by
  refine .request ?_
  split
  · exact .refuse _ s _
  split
  · exact .refuse _ s _
  split
  · exact .refuse _ s _
  split
  · exact .refuse _ s _
  · exact .accept (.work (.clearFault s _))

/-! ### Pool requests and the STOP input -/

theorem joined_of_isJoined {s : State} (h : ¬ s.isJoined = false) : s.member.station = .joined :=
  of_decide_eq_true (Bool.eq_true_of_not_eq_false h)

theorem execGo_reaches (i : Byte) (s : State) : Reaches c s (execGo i s) := by
  refine .request ?_
  split
  · exact .refuse _ s _
  split
  · exact .refuse _ s _
  split
  · exact .refuse _ s _
  rename_i hj
  split
  · exact .refuse _ s _
  · exact .accept (.work (.of_joined (joined_of_isJoined hj) (.place s _ _)))

theorem execSetShed_reaches (i : Byte) (s : State) : Reaches c s (execSetShed i s) := by
  refine .request ?_
  split
  · exact .refuse _ s _
  split
  · exact .refuse _ s _
  rename_i hj
  split
  · exact .refuse _ s _
  · rename_i ht
    exact .accept (.work (.of_joined (joined_of_isJoined hj) (.of_queue (requestShed_frame ht))))

theorem execPoolStop_reaches (s : State) : Reaches c s (execPoolStop s) := by
  refine .request ?_
  split
  · exact .refuse _ s _
  · rename_i hj
    exact .accept (.work (.of_joined (joined_of_isJoined hj) (.setLatch s)))

theorem execStationStop_reaches (i : Byte) (s : State) : Reaches c s (execStationStop i s) := by
  refine .request ?_
  split
  · exact .refuse _ s _
  split
  · exact .refuse _ s _
  rename_i hj
  split
  · exact .refuse _ s _
  · exact .accept (.work (.of_joined (joined_of_isJoined hj) (.withQueue s _)))

theorem execStopInputAssertion_reaches (s : State) : Reaches c s (execStopInputAssertion s) := by
  unfold execStopInputAssertion
  split
  · exact .next (.refl _ s)
  refine .next (.after (.withStopInput s true) (.work ?_))
  split
  · rename_i hj
    exact .of_joined (of_decide_eq_true hj) (.setLatch _)
  · exact .refl _

/-! ### Notes, reads and events -/

theorem execStageNoteByte_reaches (i : Byte) (v : BitVec 16) (s : State) : Reaches c s (execStageNoteByte i v s) := by
  refine .request ?_
  split
  · exact .refuse _ s _
  split
  · exact .refuse _ s _
  · exact .accept (.work (.withPort s _))

theorem execSendNote_reaches (i : Byte) (v : BitVec 16) (s : State) : Reaches c s (execSendNote i v s) := by
  refine .request ?_
  split
  · exact .refuse _ s _
  split
  · exact .refuse _ s _
  split
  · exact .refuse _ s _
  rename_i hj
  split
  · exact .refuse _ s _
  · exact .accept (.work (.of_joined (joined_of_isJoined hj) (.place s _ _)))

theorem execReadNoteByte_reaches (i : Byte) (s : State) : Reaches c s (execReadNoteByte i s) := by
  refine .request ?_
  split
  · exact .refuse _ s _
  split
  · exact .refuse _ s _
  · exact .acceptValue (.refl _ s) _

theorem releaseHold_works (s : State) : Works s (releaseHold s) := .withLine Iff.rfl

theorem dropHead_works (s : State) : Works s (dropHead s) := by
  unfold dropHead
  dsimp only
  split
  · exact ((Works.withPort s _).trans (releaseHold_works _)).trans ((Works.withPort _ _).trans (.raise _ _))
  · exact .withPort s _

theorem execDropNote_reaches (s : State) : Reaches c s (execDropNote s) := by
  refine .request ?_
  split
  · exact .refuse _ s _
  · exact .accept (.work (dropHead_works s))

theorem execNoteHoldExpiry_reaches (s : State) : Reaches c s (execNoteHoldExpiry s) := by
  refine .work ?_
  split
  · exact .refl s
  · exact (releaseHold_works s).trans (.raise _ _)

theorem execReadItem_reaches (i : Byte) (v : BitVec 16) (s : State) : Reaches c s (execReadItem i v s) := by
  refine .request ?_
  split
  · exact .refuse _ s _
  · exact .acceptValue (.refl _ s) _

theorem execNextEvent_reaches (s : State) : Reaches c s (execNextEvent s) := by
  refine .request ?_
  split
  · exact .acceptValue (.refl _ s) _
  · exact .acceptValue (.work (.withPort s _)) _

theorem execSetMask_reaches (i : Byte) (v : BitVec 16) (s : State) : Reaches c s (execSetMask i v s) := by
  refine .request ?_
  split
  · exact .accept (.work (.withPort s _))
  · exact .refuse _ s _

/-! ### The share line -/

theorem execIdleGap_reaches (edge : StartEdge) (s : State) : Reaches c s (execIdleGap edge s) := by
  refine .next (.after (.quietLine s) (.work ?_))
  split
  · rename_i h
    exact .opportunity (by rw [h.1]; decide) edge
  · exact .refl _

theorem execFirstIdleGap_reaches (s : State) : Reaches c s (execFirstIdleGap s) := by
  refine .work ?_
  split
  · exact .withLine Iff.rfl
  · exact .refl s

theorem execArbitrationWon_reaches (s : State) : Reaches c s (execArbitrationWon s) := by
  refine .work ?_
  split
  · rename_i h
    exact .winArbitration (by rw [h]; decide)
  · exact .refl s

theorem execReadbackFault_reaches (s : State) : Reaches c s (execReadbackFault s) := by
  refine .next ?_
  split
  · rename_i h
    have hl : s.line.state ≠ .offLine := by
      rcases h with h | ⟨h, -⟩ <;> rw [h] <;> decide
    exact .after (.withLine_ne hl (by simp)) (.failCarried (by simp) _)
  · exact .refl _ s

theorem execDuplicateCollision_reaches (read : Collision) (s : State) : Reaches c s (execDuplicateCollision read s) := by
  refine .next ?_
  split
  · exact .work (.withLine Iff.rfl)
  · rename_i h
    split
    · unfold collisionEnds
      split
      · exact .isolate _ s _
      · exact .failCarried_idle (by rw [h]; decide) _
    · exact .refl _ s
  · rename_i h
    exact .work (.withLine_ne (by rw [h]; decide) (by simp))
  · exact .refl _ s

theorem execCensusAnswerField_reaches (n : StationNo) (h : CensusHeader) (s : State) :
    Reaches c s (execCensusAnswerField n h s) := by
  have hears : frameRole s n (.census h) ≠ .unheard → s.line.state ≠ .offLine := fun hr ho => hr (frameRole_offLine ho n _)
  refine .work ?_
  split
  · rename_i hr
    exact .withLine_ne (hears (by rw [hr]; decide)) (by simp)
  · rename_i hr
    exact .withLine_ne (hears (by rw [hr]; decide)) (by simp)
  all_goals exact .refl s

theorem execFrameSpoiled_reaches (s : State) : Reaches c s (execFrameSpoiled s) := by
  refine .next ?_
  split
  case h_1 h => exact .failCarried_idle (by rw [h]; decide) _
  case h_2 h => exact .failCarried_idle (by rw [h]; decide) _
  case h_3 h => exact .work (.backToIdle (by rw [h]; decide))
  case h_4 h => exact .work (.backToIdle (by rw [h]; decide))
  all_goals exact .refl _ s

theorem execHoldEnd_reaches (s : State) : Reaches c s (execHoldEnd s) := by
  refine .work ?_
  split
  · rename_i h
    exact .withLine_ne (by rw [h.1]; decide) (by simp)
  · exact .refl s

theorem goStuck_works {s : State} (hl : s.line.state ≠ .offLine) : Works s (goStuck s) := .withLine_ne hl (by simp)

theorem execDataStuck_reaches (s : State) : Reaches c s (execDataStuck s) := by
  refine .work ?_
  split
  · rename_i h
    exact goStuck_works (by rcases h with h | h <;> rw [h] <;> decide)
  · exact .refl s

theorem execHoldStuck_reaches (s : State) : Reaches c s (execHoldStuck s) := by
  refine .work ?_
  split
  case h_1 h => exact goStuck_works (by rw [h]; decide)
  case h_2 h => exact goStuck_works (by rw [h]; decide)
  case h_7 => exact .refl s
  case h_8 => exact .refl s
  all_goals exact .withLine Iff.rfl

theorem execStuckExit_reaches (s : State) : Reaches c s (execStuckExit s) := by
  refine .work ?_
  split
  · rename_i h
    exact .withLine_ne (by rw [h]; decide) (by simp)
  · exact .refl s

/-! ### Timers -/

theorem execCensusTimerExpiry_reaches (s : State) : Reaches c s (execCensusTimerExpiry s) := by
  refine .work ?_
  split
  · rename_i h
    have hj : s.member.station = .joined := of_decide_eq_true h.2
    have htimer : Works s (s.withMember { s.member with censusTimer := none }) :=
      .withMember_joined hj rfl rfl rfl
    exact htimer.trans (.withQueue (fun _ => htimer.participating.trans (participating_of_joined hj)) (.setCensus _ _))
  · exact .refl s

theorem execSyncTimerExpiry_reaches (s : State) : Reaches c s (execSyncTimerExpiry s) := by
  refine .work ?_
  split
  · rename_i h
    have hp : s.participating = true := by simp [State.participating, h.2, StationState.participates]
    have htimer : Works s (s.withMember { s.member with syncTimer := none }) := .withMember_syncing h.2 rfl rfl rfl rfl
    exact htimer.trans (.withQueue (fun _ => htimer.participating.trans hp) (.setCensus _ _))
  · exact .refl s

theorem execSilenceTimerExpiry_reaches (s : State) : Reaches c s (execSilenceTimerExpiry s) := by
  refine .next ?_
  split
  · exact .isolate _ s _
  · exact .refl _ s

theorem execRejoinTimerExpiry_reaches (s : State) : Reaches c s (execRejoinTimerExpiry s) := by
  refine .next ?_
  split
  · rename_i h
    exact .move (.enterJoining (.inr h.2))
  · exact .refl _ s

theorem execInrushTimerExpiry_reaches (d : ChanNo) (s : State) : Reaches c s (execInrushTimerExpiry d s) := by
  refine .work ?_
  split
  · rename_i h
    refine .of_channelWrites (.inrushOver s d) fun b hj => ?_
    have hrest := (b.channelRests hj d).state
    simp [h.2] at hrest
  · exact .refl s

theorem execSpacingTimerExpiry_reaches (s : State) : Reaches c s (execSpacingTimerExpiry s) := by
  have hstopped : Works s (s.withChan { s.chan with spacing := none }) := .withChan rfl rfl fun b hj => b.channelRests hj
  refine .work ?_
  split
  · dsimp only
    split
    · exact hstopped.trans (.startHead _)
    · exact hstopped
  · exact .refl s

/-! ### The probe unit and output supervision -/

theorem execProbeWindowEnd_reaches (n : Nat) (s : State) : Reaches c s (execProbeWindowEnd n s) := by
  unfold execProbeWindowEnd
  split
  · exact .next (.refl _ s)
  dsimp only
  split
  · exact .work ((Works.withProbe s _).trans (.probePassed _ _))
  · exact .work ((Works.withProbe s _).trans (.probeFailed _ _ _ _))

/-- A driven output is a JOINED station's (R110). -/
theorem joined_of_driven {s : State} {d : ChanNo} (h : s.driven d = true) : s.member.station = .joined := by
  simp only [State.driven, Bool.and_eq_true] at h
  exact of_decide_eq_true h.1.1

theorem joined_of_openActive {s : State} {d : ChanNo} (h : openActive s d = true) : s.member.station = .joined := by
  simp only [openActive, Bool.and_eq_true] at h
  exact joined_of_driven h.1.1

theorem execOvercurrent_reaches (d : ChanNo) (x : Nat) (s : State) : Reaches c s (execOvercurrent d x s) := by
  refine .work ?_
  split
  · rename_i h
    simp only [Bool.and_eq_true] at h
    exact .of_joined (joined_of_driven h.1) ((ChannelWrites.writeRecord s d _ _ _ _).trans (.faultChannel _ d))
  · exact .refl s

theorem execOpenLoad_reaches (d : ChanNo) (x : Nat) (s : State) : Reaches c s (execOpenLoad d x s) := by
  refine .work ?_
  split
  · rename_i h
    simp only [Bool.and_eq_true] at h
    exact .of_joined (joined_of_openActive h.1.1) (.openLoadFound s d x)
  · exact .refl s

theorem execOpenLoadRearm_reaches (d : ChanNo) (x : Nat) (s : State) : Reaches c s (execOpenLoadRearm d x s) := by
  refine .work ?_
  split
  · exact .updChannel fun _ h => h.congr rfl rfl rfl
  · exact .refl s

theorem execCurrentMeasurement_reaches (d : ChanNo) (x : Nat) (s : State) : Reaches c s (execCurrentMeasurement d x s) :=
  .work (.updChannel fun _ h => h.congr rfl rfl rfl)

/-! ### The station monitor -/

theorem setTemperature_works (s : State) (t : TempState) : Works s (setTemperature s t) :=
  (Works.withMonitor s _).trans (.raise _ _)

theorem setSupply_works (s : State) (v : SupplyState) : Works s (setSupply s v) :=
  (Works.withMonitor s _).trans (.raise _ _)

theorem enterShutdown_works (s : State) : Works s (enterShutdown s) := (Works.retire s .hot).trans (setTemperature_works _ _)

theorem execThermalWarning_reaches (die : Int) (s : State) : Reaches c s (execThermalWarning die s) := by
  refine .work ?_
  split
  · exact enterShutdown_works s
  split
  · exact setTemperature_works s _
  split
  · exact setTemperature_works s _
  · exact .refl s

theorem execThermalShutdown_reaches (die : Int) (s : State) : Reaches c s (execThermalShutdown die s) := by
  refine .work ?_
  split
  · exact enterShutdown_works s
  · exact .refl s

theorem execShutdownExit_reaches (die : Int) (s : State) : Reaches c s (execShutdownExit die s) := by
  refine .work ?_
  split
  · exact setTemperature_works s _
  · exact .refl s

theorem execLockoutEntry_reaches (vs : Nat) (s : State) : Reaches c s (execLockoutEntry vs s) := by
  refine .work ?_
  split
  · exact (Works.retire s _).trans (setSupply_works _ _)
  · exact .refl s

theorem execLockoutExit_reaches (vs : Nat) (s : State) : Reaches c s (execLockoutExit vs s) := by
  refine .work ?_
  split
  · exact setSupply_works s _
  · exact .refl s

theorem requestRaise_works (s : State) : Works s (requestRaise s) := by
  unfold requestRaise
  split
  · rename_i h
    exact .of_joined (of_decide_eq_true h.2.1) (.of_queue (sagRaise_frame s))
  · exact .refl s

theorem execSagEpisodeOpen_reaches (vs : Nat) (s : State) : Reaches c s (execSagEpisodeOpen vs s) := by
  refine .work ?_
  split
  · exact (setSupply_works s _).trans (requestRaise_works _)
  · exact .refl s

theorem execSagEpisodeClose_reaches (vs : Nat) (s : State) : Reaches c s (execSagEpisodeClose vs s) := by
  refine .work ?_
  split
  · exact setSupply_works s _
  · exact .refl s

/-! ### Every command -/

/-- An accepted frame with a body of its own, and an effect that is a move. -/
theorem frame_reaches {s : State} {n : StationNo} {f : Frame} {effect : Bool → State → State}
    (h : ∀ (own : Bool) (u : State), u.line.state ≠ .offLine → Moves c u (effect own u)) :
    Reaches c s (acceptFrame s (frameRole s n f) effect) :=
  .acceptFrame (fun ho => frameRole_offLine ho n f) h

/-- Every command is ordinary work, with at most one larger move. -/
theorem exec_reaches (i : Instr) (s : State) : Reaches i s (exec i s) := by
  cases i with
  | powerOn p => exact .next (.move (.hardReset p (.inl rfl)))
  | pinReset p => exact .next (.move (.hardReset p (.inr rfl)))
  | softReset => exact .request (.accept (.work (.withPort s _)))
  | transactionEnd edge die vs => exact execTransactionEnd_reaches edge die vs s
  | unknown code => exact execUnknown_reaches code s
  | setItem i v => exact execSetItem_reaches i v s
  | commit => exact execCommit_reaches s
  | start => exact execStart_reaches s
  | on i v => exact .request (startRequest_reaches false i v s)
  | arm i v => exact .request (startRequest_reaches true i v s)
  | off i => exact execOff_reaches i s
  | clearFault i => exact execClearFault_reaches i s
  | go i => exact execGo_reaches i s
  | setShed i => exact execSetShed_reaches i s
  | poolStop => exact execPoolStop_reaches s
  | stationStop i => exact execStationStop_reaches i s
  | stageNoteByte i v => exact execStageNoteByte_reaches i v s
  | sendNote i v => exact execSendNote_reaches i v s
  | readNoteByte i => exact execReadNoteByte_reaches i s
  | dropNote => exact execDropNote_reaches s
  | readItem i v => exact execReadItem_reaches i v s
  | nextEvent => exact execNextEvent_reaches s
  | setMask i v => exact execSetMask_reaches i v s
  | stopInputAssertion => exact execStopInputAssertion_reaches s
  | idleGap edge => exact execIdleGap_reaches edge s
  | firstIdleGap => exact execFirstIdleGap_reaches s
  | arbitrationWon => exact execArbitrationWon_reaches s
  | readbackFault => exact execReadbackFault_reaches s
  | duplicateCollision read => exact execDuplicateCollision_reaches read s
  | censusAnswerField n h => exact execCensusAnswerField_reaches n h s
  | frameSpoiled => exact execFrameSpoiled_reaches s
  | claim n d k u g w => exact frame_reaches fun _ _ => claimEffect_moves rfl n d k u g w
  | release n d k u full => exact frame_reaches fun _ _ => releaseEffect_moves rfl (.release n k u) n d u _
  | withdraw n d k u => exact frame_reaches fun _ _ => releaseEffect_moves rfl (.withdraw n d) n d u _
  | goApplied n g => exact frame_reaches fun _ _ => goEffect_moves g
  | shedSet n l => exact frame_reaches fun _ _ => shedSetEffect_moves rfl l
  | shedRaise n p => exact frame_reaches fun _ _ => shedRaiseEffect_moves rfl p
  | stopAll n => exact frame_reaches fun _ _ => stopAllEffect_moves rfl
  | stopStation n t => exact frame_reaches fun _ _ => stopStationEffect_moves rfl t
  | note n t d => exact frame_reaches fun _ _ => noteEffect_moves ⟨n, t, d⟩
  | noteHoldExpiry => exact execNoteHoldExpiry_reaches s
  | holdEnd => exact execHoldEnd_reaches s
  | join n t => exact frame_reaches fun _ _ => joinEffect_moves rfl n t
  | snapshot n t p => exact frame_reaches fun _ _ => snapshotEffect_moves n t p
  | census n h m => exact .acceptFrame (fun ho => censusRole_offLine ho n h) fun _ _ => censusEffect_moves rfl h m
  | censusTimerExpiry => exact execCensusTimerExpiry_reaches s
  | syncTimerExpiry => exact execSyncTimerExpiry_reaches s
  | silenceTimerExpiry => exact execSilenceTimerExpiry_reaches s
  | rejoinTimerExpiry => exact execRejoinTimerExpiry_reaches s
  | dataStuck => exact execDataStuck_reaches s
  | holdStuck => exact execHoldStuck_reaches s
  | stuckExit => exact execStuckExit_reaches s
  | inrushTimerExpiry d => exact execInrushTimerExpiry_reaches d s
  | spacingTimerExpiry => exact execSpacingTimerExpiry_reaches s
  | probeWindowEnd n => exact execProbeWindowEnd_reaches n s
  | overcurrent d x => exact execOvercurrent_reaches d x s
  | openLoad d x => exact execOpenLoad_reaches d x s
  | thermalWarning die => exact execThermalWarning_reaches die s
  | thermalShutdown die => exact execThermalShutdown_reaches die s
  | shutdownExit die => exact execShutdownExit_reaches die s
  | lockoutEntry vs => exact execLockoutEntry_reaches vs s
  | lockoutExit vs => exact execLockoutExit_reaches vs s
  | sagEpisodeOpen vs => exact execSagEpisodeOpen_reaches vs s
  | sagEpisodeClose vs => exact execSagEpisodeClose_reaches vs s
  | stopInputRelease => exact .work (.withStopInput s false)
  | stationClockTick => exact .work (.withMonitor s _)
  | openLoadRearm d x => exact execOpenLoadRearm_reaches d x s
  | currentMeasurement d x => exact execCurrentMeasurement_reaches d x s

end Sys2Proof.Machine
end

section
/-! The invariants of the station, each by one lemma over the larger moves: the blocks agree with the station state, the pool state
is in order, the pool state changes only by frames, and what a commit froze stays. -/

namespace Sys2Proof.Machine

open Sys2Proof.Safety Sys2Proof.Obl

/-- A step runs the front command on the station without it, or idles. -/
theorem step_cases {s t : State} (h : step s = .next t) :
    t = s ∨ ∃ c rest, s.pending = c :: rest ∧ Moves c (s.withPending rest) t := by
  unfold step at h
  split at h
  · exact .inl (Host.Outcome.next.inj h).symm
  · rename_i c rest hp
    exact .inr ⟨c, rest, hp, exec_reaches c _ t h⟩

/-! ### Isolation (R103) -/

/-- What isolation writes of the blocks that the agreement speaks of. -/
theorem isolate_blocks {s : State} (hp : s.participating = true) (r : IsoReason) :
    (isolate s r).pool = emptyPool ∧ (isolate s r).line = offLine ∧ (isolate s r).queue = emptyQueue
      ∧ (isolate s r).member = isolatedMember s r ∧ (isolate s r).chan = (retireIsolated s).chan := by
  unfold isolate
  rw [if_pos hp]
  refine ⟨rfl, rfl, rfl, rfl, ?_⟩
  dsimp only
  split <;> rfl

theorem channelRests_isolatedChannel (x : Channel) : ChannelRests (isolatedChannel x) := by
  refine ⟨rfl, ?_, rfl⟩
  unfold isolatedChannel
  dsimp only
  split
  · rename_i h
    exact .inr h.symm
  · exact .inl rfl

theorem ne_unconfigured_of_participating {s : State} (hp : s.participating = true) : s.member.station ≠ .unconfigured := by
  intro hs
  simp [State.participating, hs, StationState.participates] at hp

end Sys2Proof.Machine

namespace Sys2Proof.Safety.BlocksAgree

open Sys2Proof.Machine Sys2Proof.Obl

/-- A station that does not participate agrees once everything is at rest. -/
theorem of_not_participating {s : State} (hp : s.participating = false) (hline : s.line.state = .offLine)
    (hpool : s.pool = emptyPool) (hqueue : s.queue = emptyQueue) (hstart : s.chan.startQueue = []) (hlatch : s.chan.latch = false)
    (hrest : ∀ c : ChanNo, ChannelRests (s.channel c)) (htimers : TimersFollowStation s) (hterms : TermsHeldOnceCommitted s) :
    BlocksAgree s where
  line := by simp [LineFollowsStation, hp, hline]
  pool := fun _ => hpool
  queue := fun _ => hqueue
  counts := fun _ c => (hrest c).counted
  idle := fun _ c => (hrest c).state
  owed := fun _ => ⟨hstart, fun c => ⟨by rw [slotEmpty_iff, hqueue]; rfl, (hrest c).followUp⟩⟩
  timers := htimers
  terms := hterms
  latch := fun h => by simp [hlatch] at h

theorem not_participating {s : State} (h : BlocksAgree s) (hp : s.participating = false) : s.line.state = .offLine :=
  not_not.mp fun hl => by simp [h.participating hl] at hp

theorem hardReset (p : PinSample) (s : State) : BlocksAgree (hardReset p s) := by
  refine of_not_participating rfl rfl rfl rfl rfl rfl (fun c => ?_) ?_ ?_
  · have hc : (Machine.hardReset p s).channel c = resetChannel := by
      simp [State.channel, Machine.hardReset, State.reset, resetChanCtl]
    rw [hc]
    exact ⟨rfl, .inr (.inl rfl), rfl⟩
  · exact ⟨fun _ => ⟨rfl, rfl⟩, fun _ => rfl, fun _ => rfl⟩
  · exact ⟨fun _ => rfl, fun _ => rfl⟩

theorem softReset (die : Int) (vs : Nat) (s : State) : BlocksAgree (softReset die vs s) := by
  have hstation : (Machine.softReset die vs s).member.station = if s.terms.isSome then .ready else .unconfigured := rfl
  refine of_not_participating ?_ rfl rfl rfl rfl rfl (fun c => ?_) ?_ ?_
  · rw [State.participating, hstation]
    split <;> rfl
  · have hc : (Machine.softReset die vs s).channel c = softChannel s.terms.isSome (s.cfg c) (s.channel c) := by
      simp [State.channel, State.cfg, Machine.softReset]
    rw [hc]
    refine ⟨rfl, ?_, rfl⟩
    unfold softChannel
    dsimp only
    split
    · exact .inl rfl
    · exact .inr (.inl rfl)
  · exact ⟨fun _ => ⟨rfl, rfl⟩, fun _ => rfl, fun _ => rfl⟩
  · rw [TermsHeldOnceCommitted, hstation]
    cases hterms : s.terms <;> simp [Machine.softReset, hterms]

theorem committed {s : State} (h : BlocksAgree s) (hs : s.member.station = .unconfigured) : BlocksAgree (committed s) := by
  have hj : s.member.station ≠ .joined := by simp [hs]
  have hp : s.participating = false := by simp [State.participating, hs, StationState.participates]
  refine of_not_participating rfl (h.not_participating hp) (h.pool hj) (h.queue hp) (h.startQueue_nil hj)
    (h.latch_clear hj) (fun c => ?_) ?_ (by simp [TermsHeldOnceCommitted, Machine.committed])
  · have hc : (Machine.committed s).channel c = commitChannel (s.cfg c) (s.channel c) := by
      simp [State.channel, State.cfg, Machine.committed]
    rw [hc]
    unfold commitChannel
    split
    · exact ⟨(h.channelRests hj c).counted, .inl rfl, (h.channelRests hj c).followUp⟩
    · exact h.channelRests hj c
  · exact ⟨fun _ => h.memberTimers_none hj, fun _ => h.syncTimer_none (by simp [hs]), fun _ => h.rejoinTimer_none (by simp [hs])⟩

theorem enterJoining {s : State} (h : BlocksAgree s) (hs : s.member.station = .ready ∨ s.member.station = .isolated) :
    BlocksAgree (enterJoining s) := by
  have hj : s.member.station ≠ .joined := by rcases hs with hs | hs <;> simp [hs]
  have hsync : s.member.station ≠ .syncing := by rcases hs with hs | hs <;> simp [hs]
  have hterms : s.terms ≠ none := h.terms_ne_none (by rcases hs with hs | hs <;> simp [hs])
  have hslots : KeepsSlotsEmpty s.queue (Machine.enterJoining s).queue := .place s.queue (by simp) _
  have hstation : (Machine.enterJoining s).member.station = .joining := rfl
  have hp : (Machine.enterJoining s).participating = true := rfl
  exact
    { line := ⟨fun _ => (by decide : LineState.idle ≠ .offLine), fun _ => hp⟩
      pool := fun _ => h.pool hj
      queue := fun hn => by simp [hp] at hn
      counts := fun _ => h.counts hj
      idle := fun _ => h.idle hj
      owed := fun _ => ⟨h.startQueue_nil hj, fun c =>
        ⟨slotEmpty_iff.mpr (hslots c (slotEmpty_iff.mp (h.slot_empty hj c))), (h.channelRests hj c).followUp⟩⟩
      timers := ⟨fun _ => h.memberTimers_none hj, fun _ => h.syncTimer_none hsync, fun _ => rfl⟩
      terms := ⟨fun ht => absurd ht hterms, fun hn => by simp [hstation] at hn⟩
      latch := fun hl => absurd (h.latch hl) hj }

theorem enterSyncing {s : State} (h : BlocksAgree s) (hs : s.member.station = .joining) : BlocksAgree (enterSyncing s) := by
  have hj : s.member.station ≠ .joined := by simp [hs]
  have hl : s.line.state ≠ .offLine := h.line.mp (by simp [State.participating, hs, StationState.participates])
  have hterms : s.terms ≠ none := h.terms_ne_none (by simp [hs])
  have hstation : (Machine.enterSyncing s).member.station = .syncing := rfl
  have hp : (Machine.enterSyncing s).participating = true := rfl
  exact
    { line := ⟨fun _ => hl, fun _ => hp⟩
      pool := fun _ => h.pool hj
      queue := fun hn => by simp [hp] at hn
      counts := fun _ => h.counts hj
      idle := fun _ => h.idle hj
      owed := fun _ => h.owed hj
      timers := ⟨fun _ => h.memberTimers_none hj, fun hn => absurd hstation hn, fun _ => h.rejoinTimer_none (by simp [hs])⟩
      terms := ⟨fun ht => absurd ht hterms, fun hn => by simp [hstation] at hn⟩
      latch := fun hl => absurd (h.latch hl) hj }

/-- A SYNCING station that becomes JOINED with the timers of R88 agrees, whatever pool state it adopts. -/
theorem of_syncing {s t : State} (h : BlocksAgree s) (hs : s.member.station = .syncing) (hline : t.line = s.line)
    (hterms : t.terms = s.terms) (hstation : t.member.station = .joined) (hsync : t.member.syncTimer = none)
    (hrejoin : t.member.rejoinTimer = s.member.rejoinTimer) : BlocksAgree t := by
  refine of_joined hstation ?_ hsync ?_ ?_
  · rw [hline]
    exact h.line.mp (by simp [State.participating, hs, StationState.participates])
  · rw [hrejoin]
    exact h.rejoinTimer_none (by simp [hs])
  · rw [hterms]
    exact h.terms_ne_none (by simp [hs])

theorem isolate {s : State} (h : BlocksAgree s) (hp : s.participating = true) (r : IsoReason) : BlocksAgree (isolate s r) := by
  obtain ⟨hpool, hline, hqueue, hmember, hchan⟩ := isolate_blocks hp r
  obtain ⟨-, -, hterms, -, -, -⟩ := isolate_keeps s r
  have hstation : (Machine.isolate s r).member.station = .isolated := by rw [hmember]; rfl
  refine of_not_participating ?_ (by rw [hline]; rfl) hpool hqueue (by rw [hchan]; rfl) (by rw [hchan]; rfl) (fun c => ?_) ?_ ?_
  · rw [State.participating, hstation]
    rfl
  · have hc : (Machine.isolate s r).channel c = isolatedChannel (s.channel c) := by
      rw [State.channel, hchan]
      simp [State.channel, retireIsolated]
    rw [hc]
    exact channelRests_isolatedChannel _
  · rw [TimersFollowStation, hmember]
    exact ⟨fun _ => ⟨rfl, rfl⟩, fun _ => rfl, fun hn => absurd rfl hn⟩
  · rw [TermsHeldOnceCommitted, hterms, hstation]
    exact ⟨fun ht => absurd ht (h.terms_ne_none (ne_unconfigured_of_participating hp)), fun hn => absurd hn (by decide)⟩

/-- A member's pool state is no part of the agreement. -/
theorem withPool {s : State} (h : BlocksAgree s) (hs : s.member.station = .joined) (q : Pool) : BlocksAgree (s.withPool q) :=
  of_joined hs (h.line.mp (participating_of_joined hs)) (h.syncTimer_none (by simp [hs])) (h.rejoinTimer_none (by simp [hs]))
    (h.terms_ne_none (by simp [hs]))

theorem withSettings {s : State} (h : BlocksAgree s) (x : Settings) : BlocksAgree (s.withSettings x) := { h with }

/-- Every larger move keeps the agreement. -/
theorem move {c : Instr} {s t : State} (h : BlocksAgree s) (hm : StationMove c s t) : BlocksAgree t := by
  cases hm with
  | hardReset p => exact hardReset p s
  | softReset bits die vs => exact softReset die vs s
  | setItem i v st => exact h.withSettings st
  | commit hc hs => exact h.committed hs
  | enterJoining hs => exact h.enterJoining hs
  | enterSyncing hs => exact h.enterSyncing hs
  | adopt n t p hc hs => exact h.of_syncing hs rfl rfl rfl rfl rfl
  | found m hc hs => exact h.of_syncing hs rfl rfl rfl rfl rfl
  | isolate r hp => exact h.isolate hp r
  | changePool q hc hs => exact h.withPool hs q

theorem moves {c : Instr} {s t : State} (h : BlocksAgree s) (hm : Moves c s t) : BlocksAgree t := by
  rcases hm with hw | ⟨u, v, hsu, huv, hvt⟩
  · exact hw.agrees h
  · exact hvt.agrees ((hsu.agrees h).move huv)

end Sys2Proof.Safety.BlocksAgree

namespace Sys2Proof.Machine

open Sys2Proof.Safety Sys2Proof.Obl

/-- Settles O41: ordinary work keeps the agreement, and so does each larger move. -/
theorem stationAgreementKept : Obligations.StationAgreementKept := by
  intro s t h hstep
  rcases step_cases hstep with rfl | ⟨c, rest, -, hm⟩
  · exact h
  · exact ((Works.withPending s rest).agrees h).moves hm

/-! ### The pool state in order -/

theorem poolKept_of_works {s t : State} (h : Works s t) (hs : PoolKept s.limit s.pool) : PoolKept t.limit t.pool := by
  rwa [h.limit, h.pool]

/-- Every larger move keeps the pool state in order, where a snapshot brings one in order (R87). -/
theorem poolKept_of_move {c : Instr} {s t : State} (hm : StationMove c s t) (hempty : PoolEmptyUnlessJoined s)
    (hs : PoolKept s.limit s.pool) (hc : ∀ n x p, c = .snapshot n x p → PoolKept x.limit p) : PoolKept t.limit t.pool := by
  cases hm with
  | hardReset p => exact .emptyPool _
  | softReset bits die vs => exact .emptyPool _
  | setItem i v st => exact hs
  | commit hc hs =>
    rw [show (committed s).pool = emptyPool from hempty (by simp [hs])]
    exact .emptyPool _
  | enterJoining => exact hs
  | enterSyncing => exact hs
  | adopt n x p hsnapshot hstation hterms =>
    have hlimit : (adopt s p).limit = x.limit := by simp [State.limit, adopt, hterms]
    rw [hlimit]
    exact hc n x p hsnapshot
  | found m => exact .foundedPool _ _
  | isolate r hp =>
    rw [(isolate_blocks hp r).1]
    exact .emptyPool _
  | changePool q hc hstation hq => exact hq.keeps hs

/-- Settles O43: ordinary work leaves the pool state and the limit, and each larger move keeps them in order. -/
theorem poolStateKept : Obligations.PoolStateKept := by
  intro s t hempty hs hsnapshots hstep
  rcases step_cases hstep with rfl | ⟨c, rest, hpending, hw | ⟨u, v, hsu, huv, hvt⟩⟩
  · exact hs
  · exact poolKept_of_works hw hs
  have hempty : PoolEmptyUnlessJoined u := by
    rw [PoolEmptyUnlessJoined, hsu.station, hsu.pool]
    exact hempty
  refine poolKept_of_works hvt (poolKept_of_move huv hempty (poolKept_of_works hsu hs) fun n x p hc => ?_)
  exact hsnapshots n x p rest (hc ▸ hpending)

/-! ### The pool state changes only by frames (R15) -/

/-- A larger move of a command that is no frame of the pool engine and no reset leaves the pool state, or isolates. -/
theorem pool_of_move {c : Instr} {s t : State} (hm : StationMove c s t) (hc : changesPool c = false) :
    t.pool = s.pool ∨ (t.pool = emptyPool ∧ t.member.station = .isolated ∧ s.participating = true) := by
  cases hm with
  | hardReset p h => rcases h with rfl | rfl <;> cases hc
  | softReset bits die vs h => subst h; cases hc
  | adopt n x p h => subst h; cases hc
  | found m h => rw [h] at hc; cases hc
  | changePool q h => rw [h] at hc; cases hc
  | setItem => exact .inl rfl
  | commit => exact .inl rfl
  | enterJoining => exact .inl rfl
  | enterSyncing => exact .inl rfl
  | isolate r hp =>
    obtain ⟨hpool, -, -, hmember, -⟩ := isolate_blocks hp r
    exact .inr ⟨hpool, by rw [hmember]; rfl, hp⟩

/-- Settles O39: of the larger moves only frames, resets and isolation write the pool state. -/
theorem poolChangesOnlyByFrames : Obligations.PoolChangesOnlyByFrames := by
  intro c s t hexec hc
  rcases exec_reaches c s t hexec with hw | ⟨u, v, hsu, huv, hvt⟩
  · exact .inl hw.pool
  rcases pool_of_move huv hc with hpool | ⟨hpool, hstation, hp⟩
  · exact .inl (hvt.pool.trans (hpool.trans hsu.pool))
  · exact .inr ⟨hvt.pool.trans hpool, hvt.station.trans hstation, hsu.participating ▸ hp⟩

/-! ### What a commit froze, and the station state's transitions -/

/-- What a larger move that is no hard reset writes of the number, the store and the terms. -/
theorem frozen_of_move {c : Instr} {s t : State} (hm : StationMove c s t) (hpower : ∀ p, c ≠ .powerOn p)
    (hpin : ∀ p, c ≠ .pinReset p) :
    t.number = s.number
      ∧ (t.settings = s.settings ∨ s.member.station = .unconfigured ∧ ∃ i v, c = .setItem i v)
      ∧ (t.terms = s.terms ∨ s.member.station = .unconfigured ∧ c = .commit) := by
  cases hm with
  | hardReset p h => rcases h with h | h; exacts [absurd h (hpower p), absurd h (hpin p)]
  | setItem i v st h hs => exact ⟨rfl, .inr ⟨hs, i, v, h⟩, .inl rfl⟩
  | commit h hs => exact ⟨rfl, .inl rfl, .inr ⟨hs, h⟩⟩
  | isolate r =>
    obtain ⟨hnumber, hsettings, hterms, -⟩ := isolate_keeps s r
    exact ⟨hnumber, .inl hsettings, .inl hterms⟩
  | softReset => exact ⟨rfl, .inl rfl, .inl rfl⟩
  | enterJoining => exact ⟨rfl, .inl rfl, .inl rfl⟩
  | enterSyncing => exact ⟨rfl, .inl rfl, .inl rfl⟩
  | adopt => exact ⟨rfl, .inl rfl, .inl rfl⟩
  | found => exact ⟨rfl, .inl rfl, .inl rfl⟩
  | changePool => exact ⟨rfl, .inl rfl, .inl rfl⟩

theorem committedStoreStays : CommittedStoreStays := by
  intro c s t hexec hpower hpin
  rcases exec_reaches c s t hexec with hw | ⟨u, v, hsu, huv, hvt⟩
  · exact ⟨hw.number, fun _ => ⟨hw.settings, hw.terms⟩, fun _ => hw.settings, fun _ => hw.terms⟩
  obtain ⟨hnumber, hsettings, hterms⟩ := frozen_of_move huv hpower hpin
  have hstore : ¬ (u.member.station = .unconfigured ∧ ∃ i v, c = .setItem i v) → t.settings = s.settings := fun hn =>
    hvt.settings.trans ((hsettings.resolve_right hn).trans hsu.settings)
  have hheld : ¬ (u.member.station = .unconfigured ∧ c = .commit) → t.terms = s.terms := fun hn =>
    hvt.terms.trans ((hterms.resolve_right hn).trans hsu.terms)
  refine ⟨hvt.number.trans (hnumber.trans hsu.number), fun hs => ?_, fun hc => ?_, fun hc => hheld fun h => hc h.2⟩
  · rw [← hsu.station] at hs
    exact ⟨hstore fun h => hs h.1, hheld fun h => hs h.1⟩
  · exact hstore fun ⟨_, i, v, h⟩ => hc i v h

/-- The transitions of the membership chapter (R81), without a reset. -/
def stationTransitions : List (StationState × StationState) :=
  [(.unconfigured, .ready), (.ready, .joining), (.isolated, .joining), (.joining, .syncing), (.syncing, .joined), 
    (.joining, .isolated), (.syncing, .isolated), (.joined, .isolated)]

theorem mem_stationTransitions {s t : State} {a b : StationState} (hs : s.member.station = a) (ht : t.member.station = b)
    (h : (a, b) ∈ stationTransitions) : (s.member.station, t.member.station) ∈ stationTransitions := by
  rwa [hs, ht]

theorem isolated_of_participates {a : StationState} (h : a.participates = true) : (a, .isolated) ∈ stationTransitions := by
  revert h
  cases a <;> decide

theorem station_of_move {c : Instr} {s t : State} (hm : StationMove c s t) (hpower : ∀ p, c ≠ .powerOn p)
    (hpin : ∀ p, c ≠ .pinReset p) (hrise : ∀ b d v, c ≠ .transactionEnd (.rise b) d v) :
    t.member.station = s.member.station ∨ (s.member.station, t.member.station) ∈ stationTransitions := by
  cases hm with
  | hardReset p h => rcases h with h | h; exacts [absurd h (hpower p), absurd h (hpin p)]
  | softReset bits die vs h => exact absurd h (hrise bits die vs)
  | setItem => exact .inl rfl
  | changePool => exact .inl rfl
  | commit h hs => exact .inr (mem_stationTransitions (b := .ready) hs rfl (by decide))
  | enterJoining hs =>
    rcases hs with hs | hs <;> exact .inr (mem_stationTransitions (b := .joining) hs rfl (by decide))
  | enterSyncing hs => exact .inr (mem_stationTransitions (b := .syncing) hs rfl (by decide))
  | adopt n x p h hs => exact .inr (mem_stationTransitions (b := .joined) hs rfl (by decide))
  | found m h hs => exact .inr (mem_stationTransitions (b := .joined) hs rfl (by decide))
  | isolate r hp =>
    obtain ⟨-, -, -, hmember, -⟩ := isolate_blocks hp r
    exact .inr (mem_stationTransitions rfl (congrArg Member.station hmember) (isolated_of_participates hp))

theorem stationStateMovesByTable : StationStateMovesByTable := by
  intro c s t hexec hpower hpin hrise hne
  rcases exec_reaches c s t hexec with hw | ⟨u, v, hsu, huv, hvt⟩
  · exact absurd hw.station hne
  rw [← hsu.station, hvt.station]
  refine (station_of_move huv hpower hpin hrise).resolve_left fun h => hne ?_
  exact hvt.station.trans (h.trans hsu.station)

/-- Settles O58: what each larger move writes of the number, the store and the terms, and where it takes the station state. -/
theorem commitFreezesAndStatesMove : Obligations.CommitFreezesAndStatesMove := ⟨committedStoreStays, stationStateMovesByTable⟩

/-! ### Frames at a station that is not JOINED (R16, R57) -/

theorem frameRole_of_hears {s : State} {n : StationNo} {f : Frame} (hf : frameInRange f = true) (h : hears s n f) :
    frameRole s n f = .peer := by
  rcases h with ⟨hs, hpassive⟩ | ⟨hs, hkey⟩ | ⟨hs, hlistening⟩
  · simp [frameRole, hf, hs, hpassive]
  · simp [frameRole, hf, hs, hkey]
  · simp [frameRole, hf, hs, hlistening]

theorem lineAfter_holding (l : Line) : lineAfter l .holding = held l := by
  cases h : l.holdStuck <;> simp [lineAfter, held, h]

theorem ifJoined_ignored {s : State} (hj : s.member.station ≠ .joined) (t : State) : ifJoined false s t = s := by
  simp [ifJoined, State.isJoined, hj, reportAccepted]

theorem shedRaiseEffect_ignored {s : State} (hj : s.member.station ≠ .joined) (p : ShedLevel) :
    shedRaiseEffect p false s = s := by
  unfold shedRaiseEffect
  split
  · exact ifJoined_ignored hj _
  · rfl

/-- A frame that is heard, with an effect that a station which is not JOINED ignores. -/
theorem acceptFrame_ignored {s : State} {n : StationNo} {f : Frame} {effect : Bool → State → State} (hf : frameInRange f = true)
    (h : hears s n f) (heffect : effect false (enterHolding s) = enterHolding s) :
    acceptFrame s (frameRole s n f) effect = .next { s with line := held s.line } := by
  rw [frameRole_of_hears hf h]
  change Host.Outcome.next (effect false (enterHolding s)) = _
  rw [heffect, enterHolding_frame, lineAfter_holding]

/-- Settles O22: the six kinds by their commands; each effect stands behind the test for JOINED. -/
theorem framesIgnoredUnlessJoined : Obligations.FramesIgnoredUnlessJoined := by
  intro c n f s hframe hf hrank hj hhears
  have hignored : ∀ t, ifJoined false (enterHolding s) t = enterHolding s := ifJoined_ignored (s := enterHolding s) hj
  cases c <;> cases hframe
  case claim => exact acceptFrame_ignored hf hhears (hignored _)
  case release => exact acceptFrame_ignored hf hhears (hignored _)
  case withdraw => exact acceptFrame_ignored hf hhears (hignored _)
  case goApplied => exact acceptFrame_ignored hf hhears (hignored _)
  case shedSet => exact acceptFrame_ignored hf hhears (hignored _)
  case shedRaise => exact acceptFrame_ignored hf hhears (shedRaiseEffect_ignored (s := enterHolding s) hj _)
  case stopAll => exact acceptFrame_ignored hf hhears (hignored _)
  case stopStation => exact acceptFrame_ignored hf hhears (hignored _)
  case note => exact acceptFrame_ignored hf hhears (hignored _)
  all_goals exact absurd hrank (by simp [frameRank])

end Sys2Proof.Machine
end

section
/-! The station after reset (spec/01_pool_state.md R17; spec/05 R82; spec/06 R130; spec/09 R161, R168): the values it holds, the
invariants it meets, and the effect of a hard reset. -/

namespace Sys2Proof.Machine

open Sys2Proof.Safety Sys2Proof.Obl

/-! ### Values after reset -/

theorem channel_reset (c : ChanNo) : State.reset.channel c = resetChannel := by
  simp [State.channel, State.reset, resetChanCtl]

theorem cfg_reset (c : ChanNo) : State.reset.cfg c = resetChanSettings := by
  simp [State.cfg, State.reset, resetSettings]

theorem row_reset (n : StationNo) : State.reset.pool.rows[n] = absentRow := by
  simp [State.reset, emptyPool]

theorem flag_reset (i : Fin 27) : State.reset.port.flags[i] = false ∧ State.reset.port.masks[i] = true := by
  simp [State.reset, resetPort]

theorem staging_reset (i : Fin 16) : State.reset.port.staging[i] = 0#8 := by
  simp [State.reset, resetPort]

/-- No flag is pending, so ATTN is inactive (R164). -/
theorem attn_reset : State.reset.attn = false := by
  rw [State.attn, Port.nextFlag, Option.isSome_eq_false_iff, Option.isNone_iff_eq_none, List.find?_eq_none]
  intro i _
  simp [(flag_reset i).1]

theorem resetHoldsGivenValues : ResetHoldsGivenValues := by
  have hrow : absentRow = ⟨false, 0, #v[0, 0, 0, 0]⟩ := rfl
  refine ⟨rfl, rfl, rfl, rfl, rfl, rfl, rfl, rfl, rfl, rfl, rfl, fun n => (row_reset n).trans hrow, rfl, rfl,
    fun c => ?_, rfl, rfl, rfl, rfl, rfl, rfl, rfl, rfl, rfl, rfl, rfl, rfl, rfl, cfg_reset, flag_reset, rfl, staging_reset, attn_reset, rfl⟩
  rw [channel_reset]
  rfl

/-! ### A hard reset (R149, R154, R168) -/

theorem temperatureAt_shutdown {die : Int} (h : 150 ≤ die) : temperatureAt die = .shutdown := if_pos h

theorem temperatureAt_warning {die : Int} (hlow : 125 ≤ die) (hhigh : die < 150) : temperatureAt die = .warning := by
  rw [temperatureAt, if_neg (not_le.mpr hhigh), if_pos hlow]

theorem temperatureAt_normal {die : Int} (h : die < 125) : temperatureAt die = .normal := by
  rw [temperatureAt, if_neg (by omega), if_neg (not_le.mpr h)]

theorem supplyAt_lockout {vs : Nat} (h : vs < 15000) : supplyAt vs = .lockout := if_pos h

theorem supplyAt_normal {vs : Nat} (h : 15000 ≤ vs) : supplyAt vs = .normal := if_neg (not_lt.mpr h)

theorem hardResetSetsStation : HardResetSetsStation := fun p s =>
  ⟨hardReset p s, rfl, rfl, rfl, temperatureAt_shutdown, temperatureAt_warning, temperatureAt_normal, supplyAt_lockout,
    supplyAt_normal⟩

/-- Settles O59: the values of reset, and a hard reset's effect with the pins as sampled. -/
theorem hardResetHoldsGivenValues : Obligations.HardResetHoldsGivenValues := ⟨resetHoldsGivenValues, hardResetSetsStation⟩

/-! ### The invariants after reset -/

/-- The state after reset is a hard reset's, with the pins of log 1. -/
theorem reset_eq_hardReset : State.reset = hardReset ⟨0, 25, 24000, false, false⟩ State.reset := rfl

theorem blocksAgree_reset : BlocksAgree State.reset := by
  rw [reset_eq_hardReset]
  exact .hardReset _ _

theorem queueKept_reset : QueueKept State.reset := ⟨by decide, by decide, by decide⟩

theorem poolKept_reset : PoolKept State.reset.limit State.reset.pool := .emptyPool _

/-- Every channel is DISABLED, holds nothing, and has nothing pending (R130). -/
theorem channelFits_reset (c : ChanNo) : channelFits State.reset c := by
  rw [channelFits, channel_reset]
  exact ⟨rfl, rfl, rfl⟩

theorem accounted_reset : Accounted State.reset where
  blocks := blocksAgree_reset
  queue := queueKept_reset
  pool := poolKept_reset
  fits := channelFits_reset
  starts := ⟨List.nodup_nil, fun c => iff_of_false List.not_mem_nil (by rw [channel_reset]; decide)⟩
  head := fun _ _ => rfl
  probes := ⟨List.nodup_nil, fun c => iff_of_false List.not_mem_nil (by rw [channel_reset]; decide)⟩
  records := fun c => by rw [channel_reset]; decide
  faults := fun c => by rw [channel_reset]; decide
  disabled := fun c => iff_of_true (by rw [channel_reset]; rfl) fun h => absurd h.1 (by decide)
  settings := fun h => absurd h (by decide)
  frames := fun _ _ he => absurd he List.not_mem_nil
  carries := ⟨fun _ he => absurd he List.not_mem_nil, fun _ hf => nomatch hf⟩
  entries := fun _ he => absurd he List.not_mem_nil
  waits := fun _ he => absurd he List.not_mem_nil
  mirrors := fun h => absurd h (by decide)

/-- Settles O45: each invariant from the values of reset. -/
theorem invariantsHoldAtReset : Obligations.InvariantsHoldAtReset :=
  ⟨blocksAgree_reset, queueKept_reset, by decide, poolKept_reset, accounted_reset⟩

end Sys2Proof.Machine
end

section
/-! Isolation (spec/05_membership_and_census.md R102 to R105; spec/06_output_channels.md R128) written out, and the flags it raises. -/

namespace Sys2Proof.Machine

open Sys2Proof.Safety Sys2Proof.Obl

/-! ### Flags raised (R164) -/

theorem getElem_set_flag (v : Vector Bool 27) (i j : Fin 27) : (v.set i true)[j] = (v[j] || decide (j = i)) := by
  by_cases h : j = i
  · subst h
    simp
  · have : (i : Nat) ≠ j := fun e => h (Fin.ext e.symm)
    simp [h, this]

theorem getElem_pend (v : Vector Bool 27) (l : List (Fin 27)) (i : Fin 27) : (pend v l)[i] = (v[i] || decide (i ∈ l)) := by
  induction l generalizing v with
  | nil => simp [pend]
  | cons j l ih =>
    change (pend (v.set j true) l)[i] = _
    rw [ih, getElem_set_flag]
    simp [Bool.or_assoc]

theorem pend_append (v : Vector Bool 27) (l m : List (Fin 27)) : pend v (l ++ m) = pend (pend v l) m := by
  simp [pend, List.foldl_append]

theorem raise_eq_flagged (s : State) (e : Event) : s.raise e = flagged s [e.number] := rfl

theorem flagged_flagged (s : State) (l m : List (Fin 27)) : flagged (flagged s l) m = flagged s (l ++ m) := by
  simp [flagged, pend_append]

theorem flagged_raises (s : State) (l : List (Fin 27)) : Raises s (flagged s l) l := getElem_pend s.port.flags l

theorem raises_congr {s t : State} {l m : List (Fin 27)} (h : Raises s t l) (hlm : ∀ i, i ∈ l ↔ i ∈ m) : Raises s t m := by
  intro i
  rw [h i, decide_eq_decide.mpr (hlm i)]

/-- STOPPED is raised for the channels that a test picks out, in number order. -/
theorem foldl_raise_stopped (hit : ChanNo → Bool) (l : List ChanNo) (s : State) :
    l.foldl (fun t c => if hit c then t.raise (.stopped c) else t) s = flagged s ((l.filter hit).map stoppedFlag) := by
  induction l generalizing s with
  | nil => rfl
  | cons c l ih =>
    rw [List.foldl_cons, ih]
    cases hc : hit c
    · simp [hc]
    · rw [List.filter_cons_of_pos hc, List.map_cons, if_pos rfl, raise_eq_flagged, flagged_flagged]
      rfl

theorem raiseStopped_eq (s : State) : raiseStopped s = flagged s (stoppedOf fun c => (s.channel c).state.inService) :=
  foldl_raise_stopped _ allChannels s

/-! ### Isolation -/

/-- The flags of isolation, in the order raised. -/
def isolationFlags (s : State) : List (Fin 27) :=
  (if s.line.heldNotes = [] then [] else [7]) ++ (stoppedOf fun c => (s.channel c).state.inService) ++ [0]

/-- The channel controller once isolated (R128). -/
def isolatedChan (s : State) : ChanCtl :=
  { channels := Vector.ofFn fun c => isolatedChannel s.chan.channels[c], startQueue := [], spacing := none, latch := false }

theorem isolate_eq {s : State} (hp : s.participating = true) (r : IsoReason) :
    isolate s r = { flagged s (isolationFlags s) with
      pool := emptyPool, line := offLine, queue := emptyQueue, probe := idleProbe, member := isolatedMember s r
      chan := isolatedChan s } := by
  have hraised : ∀ u : State, u.chan = s.chan →
      retireIsolated u = { flagged u (stoppedOf fun c => (s.channel c).state.inService) with chan := isolatedChan s } := by
    intro u hu
    rw [retireIsolated, raiseStopped_eq]
    simp only [State.channel, hu]
    rfl
  have hnote : (if s.line.heldNotes = [] then s else s.raise .noteLost)
      = flagged s (if s.line.heldNotes = [] then [] else [7]) := by
    split <;> rfl
  rw [isolate, if_pos hp]
  dsimp only
  rw [hnote, hraised (flagged s _) rfl, isolationFlags, ← flagged_flagged, ← flagged_flagged]
  rfl

theorem channel_isolatedChan (t s : State) (ht : t.chan = isolatedChan s) (c : ChanNo) :
    t.channel c = isolatedChannel (s.channel c) := by
  simp [State.channel, ht, isolatedChan]

/-- Isolation is one event (R102, R103, R128). -/
theorem isolate_isolatedFrom {s : State} (hp : s.participating = true) (r : IsoReason) : IsolatedFrom r s (isolate s r) := by
  have hmember : isolatedMember s r =
      { station := .isolated, reason := r, syncCount := 0, lastCensus := s.member.lastCensus, censusTimer := none,
        silenceTimer := none, syncTimer := none,
        rejoinTimer :=
          if s.settings.autoRejoin = true ∧ r ≠ .duplicate ∧ r ≠ .mismatch then some (2 * s.interval) else none } := by
    unfold isolatedMember
    cases r <;> simp [IsoReason.rejoins]
  have hraises := flagged_raises s (isolationFlags s)
  rw [isolate_eq hp, hmember]
  refine ⟨rfl, rfl, rfl, rfl, fun c => ?_, ?_⟩
  · rw [channel_isolatedChan _ s rfl]
    rfl
  · refine raises_congr (m := _) hraises fun i => ?_
    simp only [isolationFlags, List.mem_append, List.mem_cons, List.not_mem_nil, or_false]
    tauto

end Sys2Proof.Machine
end

section
/-! The transmit queue in order (spec/03_the_transmit_queue.md R40 to R53; spec/09_host_port.md R166): what keeps R41's slots, R46's
on-line flags and R50's and R53's owed work, operation by operation of the queue, the line controller and the channel controller. -/

namespace Sys2Proof.Machine

open Sys2Proof.Safety

/-! ### Slots and their owners -/

/-- A slot holds one entry (R41). -/
theorem entry_unique {es : List Entry} (h : (es.map Entry.owner).Nodup) {d e : Entry} (hd : d ∈ es) (he : e ∈ es)
    (ho : d.owner = e.owner) : d = e :=
  List.inj_on_of_nodup_map h hd he ho

theorem entryOf_of_mem {q : TxQueue} (h : (q.entries.map Entry.owner).Nodup) {e : Entry} (he : e ∈ q.entries) :
    q.entryOf e.owner = some e := by
  cases hd : q.entryOf e.owner with
  | none => exact absurd rfl (TxQueue.entryOf_none.mp hd e he)
  | some d =>
    obtain ⟨hdo, hdm⟩ := TxQueue.entryOf_some hd
    rw [entry_unique h hdm he hdo]

theorem entryOf_eq_some {q : TxQueue} (h : (q.entries.map Entry.owner).Nodup) {o : Owner} {e : Entry} :
    q.entryOf o = some e ↔ e ∈ q.entries ∧ e.owner = o := by
  refine ⟨fun he => (TxQueue.entryOf_some he).symm, ?_⟩
  rintro ⟨hm, rfl⟩
  exact entryOf_of_mem h hm

theorem frozen_iff {q : TxQueue} (h : (q.entries.map Entry.owner).Nodup) {o : Owner} :
    q.frozen o = true ↔ ∃ e ∈ q.entries, e.owner = o ∧ e.onLine = true := by
  unfold TxQueue.frozen
  cases he : q.entryOf o with
  | none =>
    rw [TxQueue.entryOf_none] at he
    simpa using fun e hm ho => absurd ho (he e hm)
  | some e =>
    obtain ⟨ho, hm⟩ := TxQueue.entryOf_some he
    refine ⟨fun hon => ⟨e, hm, ho, hon⟩, ?_⟩
    rintro ⟨d, hd, hdo, hon⟩
    rwa [entry_unique h hm hd (ho.trans hdo.symm)]

/-! ### Nothing on the line -/

/-- No entry and no line action bears the on-line flag, and nothing is owed behind one. -/
structure AllUnsent (q : TxQueue) : Prop where
  entries : ∀ e ∈ q.entries, e.onLine = false
  stop : ∀ a ∈ q.stop, a.onLine = false
  census : ∀ a ∈ q.census, a.onLine = false
  stopOwed : q.stopOwed = false
  deferred : q.deferredRaise = false

/-- What bears the on-line flag is what `x` carries. -/
structure OnlyCarries (q : TxQueue) (x : Option Carrier) : Prop where
  entries : ∀ e ∈ q.entries, e.onLine = true → x = some (.entry e.owner)
  stop : ∀ a ∈ q.stop, a.onLine = true → x = some .stop
  census : ∀ a ∈ q.census, a.onLine = true → x = some .census

namespace OnlyCarries

variable {q : TxQueue} {x : Option Carrier}

/-- A STOP is owed, or a raise deferred, only behind what is carried (R50, R53). -/
theorem stop_of_owed (h : OnlyCarries q x) (ho : OwedBehindLine q) (hs : q.stopOwed = true) : x = some .stop := by
  have hany := ho.1 hs
  rw [Option.any_eq_true] at hany
  obtain ⟨a, ha, hon⟩ := hany
  exact h.stop a ha (Bool.and_elim_left hon)

theorem shed_of_deferred (h : OnlyCarries q x) (hn : (q.entries.map Entry.owner).Nodup) (ho : OwedBehindLine q)
    (hd : q.deferredRaise = true) : x = some (.entry .shed) := by
  obtain ⟨e, he, hshed, hon⟩ := (frozen_iff hn).mp (ho.2 hd)
  rw [h.entries e he hon, hshed]

theorem unsent (h : OnlyCarries q x) (hn : (q.entries.map Entry.owner).Nodup) (ho : OwedBehindLine q)
    (hentry : ∀ e ∈ q.entries, x ≠ some (.entry e.owner)) (hstop : x = some .stop → q.stop = none)
    (hcensus : x = some .census → q.census = none) : AllUnsent q where
  entries := fun e he => Bool.eq_false_of_not_eq_true fun hon => hentry e he (h.entries e he hon)
  stop := fun a ha => Bool.eq_false_of_not_eq_true fun hon => by simp [hstop (h.stop a ha hon)] at ha
  census := fun a ha => Bool.eq_false_of_not_eq_true fun hon => by simp [hcensus (h.census a ha hon)] at ha
  stopOwed := Bool.eq_false_of_not_eq_true fun hs => by
    have hany := ho.1 hs
    simp [hstop (h.stop_of_owed ho hs)] at hany
  deferred := Bool.eq_false_of_not_eq_true fun hd => by
    obtain ⟨e, he, hshed, hon⟩ := (frozen_iff hn).mp (ho.2 hd)
    exact hentry e he (h.entries e he hon)

theorem unsent_of_none (h : OnlyCarries q none) (hn : (q.entries.map Entry.owner).Nodup) (ho : OwedBehindLine q) : AllUnsent q :=
  h.unsent hn ho (fun _ _ => by simp) (fun hx => by simp at hx) (fun hx => by simp at hx)

end OnlyCarries

/-! ### The station's queue and notes in order -/

/-- The transmit queue in order, and the notes within R166 and R29. -/
structure InOrder (s : State) : Prop where
  queue : QueueKept s
  notes : NotesBounded s

namespace InOrder

variable {s t : State}

/-- The order is of the queue, the line controller and the notes. -/
theorem congr (h : InOrder s) (hq : t.queue = s.queue) (hl : t.line = s.line) (hn : t.port.notes = s.port.notes) : InOrder t := by
  obtain ⟨⟨hslots, hcarried, howed⟩, hnotes⟩ := h
  refine ⟨⟨?_, ?_, ?_⟩, ?_⟩
  · rwa [hq]
  · rwa [OnLineCarried, hq, hl]
  · rwa [hq]
  · rwa [NotesBounded, hl, hn]

theorem nodup (h : InOrder s) : (s.queue.entries.map Entry.owner).Nodup := h.queue.slots.1

theorem onlyCarries (h : InOrder s) : OnlyCarries s.queue s.line.offer := by
  obtain ⟨hentries, hstop, hcensus, -, -⟩ := h.queue.carried
  exact ⟨fun e he hon => (hentries e he hon).2, fun a ha hon => (hstop a ha hon).2, fun a ha hon => (hcensus a ha hon).2⟩

/-- A controller that is neither SENDING nor ANSWERING carries no frame of its own (R32, R34). -/
theorem ownFrame_none (h : InOrder s) (hsending : s.line.state ≠ .sending) (hanswering : s.line.state ≠ .answering) :
    s.line.ownFrame = none := by
  obtain ⟨-, -, -, hown, -⟩ := h.queue.carried
  cases hf : s.line.ownFrame with
  | none => rfl
  | some f => exact ((hown (by rw [hf]; rfl)).elim hsending hanswering).elim

theorem not_collided (h : InOrder s) (hs : s.line.state ≠ .sending) : s.line.collided = false := by
  obtain ⟨-, -, -, -, hcollided⟩ := h.queue.carried
  exact Bool.eq_false_of_not_eq_true fun hc => hs (hcollided hc)

theorem carries_none (h : InOrder s) (hf : s.line.ownFrame = none) : OnlyCarries s.queue none := by
  obtain ⟨hentries, hstop, hcensus, -, -⟩ := h.queue.carried
  have hnone : ¬ s.line.ownFrame.isSome = true := by simp [hf]
  exact ⟨fun e he hon => absurd (hentries e he hon).1 hnone, fun a ha hon => absurd (hstop a ha hon).1 hnone,
    fun a ha hon => absurd (hcensus a ha hon).1 hnone⟩

theorem unsent (h : InOrder s) (hf : s.line.ownFrame = none) : AllUnsent s.queue :=
  (h.carries_none hf).unsent_of_none h.nodup h.queue.owed

/-- A queue of which nothing is on the line is in order with any line controller in order. -/
theorem of_unsent (hslots : SlotsWellKept s.queue) (hu : AllUnsent s.queue)
    (hown : s.line.ownFrame.isSome = true → s.line.state = .sending ∨ s.line.state = .answering)
    (hcollided : s.line.collided = true → s.line.state = .sending) (hnotes : NotesBounded s) : InOrder s where
  queue :=
    { slots := hslots
      carried := ⟨fun e he hon => by simp [hu.entries e he] at hon, fun a ha hon => by simp [hu.stop a ha] at hon,
        fun a ha hon => by simp [hu.census a ha] at hon, hown, hcollided⟩
      owed := ⟨fun h => by simp [hu.stopOwed] at h, fun h => by simp [hu.deferred] at h⟩ }
  notes := hnotes

/-! ### Writers outside the order -/

theorem withSettings (h : InOrder s) (x : Settings) : InOrder (s.withSettings x) := h.congr rfl rfl rfl
theorem withStopInput (h : InOrder s) (x : Bool) : InOrder (s.withStopInput x) := h.congr rfl rfl rfl
theorem withPool (h : InOrder s) (x : Pool) : InOrder (s.withPool x) := h.congr rfl rfl rfl
theorem withMember (h : InOrder s) (x : Member) : InOrder (s.withMember x) := h.congr rfl rfl rfl
theorem withChan (h : InOrder s) (x : ChanCtl) : InOrder (s.withChan x) := h.congr rfl rfl rfl
theorem withProbe (h : InOrder s) (x : Probe) : InOrder (s.withProbe x) := h.congr rfl rfl rfl
theorem withMonitor (h : InOrder s) (x : Monitor) : InOrder (s.withMonitor x) := h.congr rfl rfl rfl
theorem withPending (h : InOrder s) (x : List Instr) : InOrder (s.withPending x) := h.congr rfl rfl rfl
theorem withPort (h : InOrder s) {x : Port} (hx : x.notes = s.port.notes) : InOrder (s.withPort x) := h.congr rfl rfl hx
theorem raise (h : InOrder s) (e : Event) : InOrder (s.raise e) := h.congr rfl rfl rfl
theorem setChannel (h : InOrder s) (c : ChanNo) (x : Channel) : InOrder (s.setChannel c x) := h.congr rfl rfl rfl
theorem updChannel (h : InOrder s) (c : ChanNo) (f : Channel → Channel) : InOrder (s.updChannel c f) := h.congr rfl rfl rfl

theorem ite {p : Prop} [Decidable p] (hs : p → InOrder s) (ht : ¬ p → InOrder t) : InOrder (if p then s else t) := by
  split
  · exact hs ‹_›
  · exact ht ‹_›

theorem foldl {α : Type} {f : State → α → State} (hf : ∀ (t : State) (a : α), InOrder t → InOrder (f t a)) (l : List α)
    (h : InOrder s) : InOrder (l.foldl f s) := by
  induction l generalizing s with
  | nil => exact h
  | cons a l ih => exact ih (hf s a h)

/-! ### Entries placed, rewritten and removed -/

/-- The entries are written so that those on the line keep their owners, and none goes on the line. -/
theorem withEntries (h : InOrder s) {es : List Entry} (hnodup : (es.map Entry.owner).Nodup)
    (hfit : ∀ e ∈ es, contentOwner e.content = e.owner ∧ e.attempts ≤ Config.maxAttempts)
    (hon : ∀ e ∈ es, e.onLine = true → ∃ d ∈ s.queue.entries, d.owner = e.owner ∧ d.onLine = true)
    (hoff : ∀ d ∈ s.queue.entries, d.onLine = true → ∃ e ∈ es, e.owner = d.owner ∧ e.onLine = true) :
    InOrder (s.withQueue { s.queue with entries := es }) := by
  obtain ⟨⟨⟨hn, -, hstops, hcensuses⟩, ⟨hentries, hstop, hcensus, hown, hcollided⟩, howed, hdeferred⟩, hnotes⟩ := h
  refine ⟨⟨⟨hnodup, hfit, hstops, hcensuses⟩, ⟨fun e he hel => ?_, hstop, hcensus, hown, hcollided⟩, howed, fun hd => ?_⟩, hnotes⟩
  · obtain ⟨d, hd, hdo, hdl⟩ := hon e he hel
    rw [← hdo]
    exact hentries d hd hdl
  · obtain ⟨d, hdm, hshed, hdl⟩ := (frozen_iff hn).mp (hdeferred hd)
    obtain ⟨e, he, heo, hel⟩ := hoff d hdm hdl
    exact (frozen_iff hnodup).mpr ⟨e, he, heo.trans hshed, hel⟩

theorem place (h : InOrder s) {o : Owner} {k : Content} (hk : contentOwner k = o) : InOrder (s.place o k) := by
  rw [State.place, TxQueue.place_eq]
  split
  case isFalse => exact h
  case isTrue hempty =>
    rw [TxQueue.entryOf_none] at hempty
    refine h.withEntries ?_ (fun e he => ?_) (fun e he hon => ?_) fun d hd hon => ⟨d, List.mem_append_left _ hd, rfl, hon⟩
    · simp only [List.map_append, List.map_cons, List.map_nil]
      refine h.nodup.append (List.nodup_singleton _) (List.disjoint_singleton.mpr fun hm => ?_)
      obtain ⟨d, hd, hdo⟩ := List.mem_map.mp hm
      exact hempty d hd hdo
    · rcases List.mem_append.mp he with he | he
      · exact h.queue.slots.2.1 e he
      · rw [List.mem_singleton.mp he]
        exact ⟨hk, Nat.zero_le _⟩
    · rcases List.mem_append.mp he with he | he
      · exact ⟨e, he, rfl, hon⟩
      · simp [List.mem_singleton.mp he] at hon

/-- Entries are rewritten one by one, each keeping its owner and its on-line flag. -/
theorem mapEntries (h : InOrder s) {f : Entry → Entry} (ho : ∀ e, (f e).owner = e.owner) (hl : ∀ e, (f e).onLine = e.onLine)
    (hfit : ∀ e ∈ s.queue.entries, contentOwner (f e).content = e.owner ∧ (f e).attempts ≤ Config.maxAttempts) :
    InOrder (s.withQueue { s.queue with entries := s.queue.entries.map f }) := by
  refine h.withEntries ?_ (fun e he => ?_) (fun e he hon => ?_) fun d hd hon => ?_
  · simpa only [List.map_map, Function.comp_def, ho] using h.nodup
  · obtain ⟨d, hd, rfl⟩ := List.mem_map.mp he
    rw [ho]
    exact hfit d hd
  · obtain ⟨d, hd, rfl⟩ := List.mem_map.mp he
    exact ⟨d, hd, (ho d).symm, (hl d).symm.trans hon⟩
  · exact ⟨f d, List.mem_map_of_mem hd, ho d, (hl d).trans hon⟩

theorem rewrite (h : InOrder s) {o : Owner} {k : Content} (hk : contentOwner k = o) : InOrder (s.rewrite o k) := by
  refine h.mapEntries (fun e => by split <;> rfl) (fun e => by split <;> rfl) fun e he => ?_
  obtain ⟨hfit, hcount⟩ := h.queue.slots.2.1 e he
  split
  · rename_i ho
    exact ⟨hk.trans ho.1.symm, hcount⟩
  · exact ⟨hfit, hcount⟩

theorem removeUnsent (h : InOrder s) (o : Owner) : InOrder (s.withQueue (s.queue.removeUnsent o)) := by
  refine h.withEntries ((List.filter_sublist.map _).nodup h.nodup) (fun e he => ?_) (fun e he hon => ?_) fun d hd hon => ?_
  · exact h.queue.slots.2.1 e (List.mem_of_mem_filter he)
  · exact ⟨e, List.mem_of_mem_filter he, rfl, hon⟩
  · exact ⟨d, TxQueue.mem_removeUnsent.mpr ⟨hd, fun _ => hon⟩, rfl, hon⟩

/-- An offer lost in arbitration: nothing is on the line there (R23). -/
theorem dropEntry (h : InOrder s) (o : Owner) : InOrder (s.dropEntry o) := by
  unfold State.dropEntry
  dsimp only
  split
  case isFalse => exact h.removeUnsent o
  case isTrue hl =>
    have h1 := h.removeUnsent o
    have hf : s.line.ownFrame = none := h.ownFrame_none (by simp [hl.1]) (by simp [hl.1])
    exact of_unsent h1.queue.slots (h1.unsent hf) (fun hs => absurd hs (by simp [hf])) h1.queue.carried.2.2.2.2 h1.notes

/-! ### The line actions and the shed slot -/

/-- A line action that is not on the line is written or withdrawn, with nothing owed behind it. -/
theorem withStop (h : InOrder s) {a : Option StopAction} (hold : ∀ b ∈ s.queue.stop, b.onLine = false)
    (hnew : ∀ b ∈ a, b.onLine = false ∧ b.attempts ≤ Config.maxAttempts) :
    InOrder (s.withQueue { s.queue with stop := a }) := by
  obtain ⟨⟨⟨hn, hfit, -, hcensuses⟩, ⟨hentries, -, hcensus, hown, hcollided⟩, howed, hdeferred⟩, hnotes⟩ := h
  refine ⟨⟨⟨hn, hfit, fun b hb => (hnew b hb).2, hcensuses⟩,
    ⟨hentries, fun b hb hon => ?_, hcensus, hown, hcollided⟩, fun hs => ?_, hdeferred⟩, hnotes⟩
  · simp [(hnew b hb).1] at hon
  · have hany := howed hs
    rw [Option.any_eq_true] at hany
    obtain ⟨b, hb, hon⟩ := hany
    simp [hold b hb] at hon

theorem withCensus (h : InOrder s) {a : Option CensusAction} (hnew : ∀ b ∈ a, b.onLine = false ∧ b.attempts ≤ Config.maxAttempts) :
    InOrder (s.withQueue { s.queue with census := a }) := by
  obtain ⟨⟨⟨hn, hfit, hstops, -⟩, ⟨hentries, hstop, -, hown, hcollided⟩, howed, hdeferred⟩, hnotes⟩ := h
  refine ⟨⟨⟨hn, hfit, hstops, fun b hb => (hnew b hb).2⟩,
    ⟨hentries, hstop, fun b hb hon => ?_, hown, hcollided⟩, howed, hdeferred⟩, hnotes⟩
  simp [(hnew b hb).1] at hon

theorem requestStopAll (h : InOrder s) : InOrder (s.withQueue (requestStopAll s.queue)) := by
  unfold Machine.requestStopAll
  split
  case h_1 hnone => exact h.withStop (by simp [hnone]) (by simp)
  case h_2 a hsome =>
    split
    case h_1 => exact h
    case h_2 n htarget =>
      split
      case isTrue hon =>
        obtain ⟨⟨hslots, hcarried, -, hdeferred⟩, hnotes⟩ := h
        exact ⟨⟨hslots, hcarried, fun _ => by simp [hsome, hon, htarget], hdeferred⟩, hnotes⟩
      case isFalse hoff =>
        have hcount : a.attempts ≤ Config.maxAttempts := h.queue.slots.2.2.1 a hsome
        exact h.withStop (by simpa [hsome] using hoff) (by simpa [hcount] using hoff)

theorem requestStopStation (h : InOrder s) {n : StationNo} {q : TxQueue} (hq : requestStopStation s.queue n = some q) :
    InOrder (s.withQueue q) := by
  unfold Machine.requestStopStation at hq
  split at hq
  case h_1 hnone =>
    cases hq
    exact h.withStop (by simp [hnone]) (by simp)
  case h_2 a hsome =>
    split at hq
    · cases hq
      exact h
    · split at hq <;> cases hq
      exact h

theorem withdrawStop (h : InOrder s) (applied : Option StationNo) : InOrder (s.withQueue (withdrawStop s.queue applied)) := by
  unfold Machine.withdrawStop
  split
  · exact h
  · rename_i a hsome
    split
    · rename_i hoff
      exact h.withStop (by simpa [hsome] using hoff.1) (by simp)
    · exact h

theorem withdrawCensus (h : InOrder s) : InOrder (s.withQueue (withdrawCensus s.queue)) := by
  unfold Machine.withdrawCensus
  split
  · exact h
  · split
    · exact h
    · exact h.withCensus (by simp)

theorem setCensus (h : InOrder s) (m : CensusMode) : InOrder (s.withQueue (setCensus s.queue m)) := by
  unfold Machine.setCensus
  split
  · exact h.withCensus (by simp)
  · exact h

theorem withdrawSnapshot (h : InOrder s) : InOrder (withdrawSnapshot s) := by
  unfold Machine.withdrawSnapshot
  split
  · exact .ite (fun _ => h.dropEntry _) fun _ => h
  · exact h

theorem requestShed (h : InOrder s) {l : ShedLevel} (ht : requestShed s l = some t) : InOrder t := by
  unfold Machine.requestShed at ht
  split at ht
  · cases ht
    exact h.place rfl
  · split at ht <;> cases ht
    exact h.rewrite rfl

theorem sagRaise (h : InOrder s) : InOrder (sagRaise s) := by
  have hrewrite : InOrder (s.rewrite .shed (.shed .raise s.pool.level)) := h.rewrite rfl
  unfold Machine.sagRaise
  split
  · exact h
  split
  case h_1 => exact h.place rfl
  case h_2 e he =>
    split
    · rename_i hon
      obtain ⟨ho, hm⟩ := TxQueue.entryOf_some he
      obtain ⟨⟨hslots, hcarried, howed, -⟩, hnotes⟩ := h
      exact ⟨⟨hslots, hcarried, howed, fun _ => (frozen_iff hslots.1).mpr ⟨e, hm, ho, hon⟩⟩, hnotes⟩
    · split
      · exact .ite (fun _ => h) fun _ => hrewrite
      · exact hrewrite

/-- A deferred raise is taken once nothing stands in its way (R53). -/
theorem settleRaise (h : InOrder (s.withQueue { s.queue with deferredRaise := false })) : InOrder (settleRaise s) := by
  unfold Machine.settleRaise
  split
  · exact h.sagRaise
  · rename_i hd
    have hsame : { s.queue with deferredRaise := false } = s.queue := by rw [← Bool.eq_false_of_not_eq_true hd]
    rwa [hsame] at h

/-- Isolation empties the queue, and no note stays held (R103, R29). -/
theorem isolate (hn : NotesBounded s) (hs : s.participating = false → InOrder s) (r : IsoReason) : InOrder (isolate s r) := by
  cases hp : s.participating
  · rw [isolate_of_not_participating hp]
    exact hs hp
  rw [isolate_eq hp]
  exact of_unsent ⟨List.nodup_nil, by simp [emptyQueue], by simp [emptyQueue], by simp [emptyQueue]⟩
    ⟨by simp [emptyQueue], by simp [emptyQueue], by simp [emptyQueue], rfl, rfl⟩ (by simp [offLine]) (by simp [offLine])
    ⟨hn.1, by simp [offLine]⟩

end InOrder

/-! ### Frames that end -/

/-- A frame is over: the line controller carries nothing more, while the queue may still bear the on-line flag of what it carried. -/
structure FrameOver (s : State) (x : Option Carrier) : Prop where
  slots : SlotsWellKept s.queue
  owed : OwedBehindLine s.queue
  carries : OnlyCarries s.queue x
  ownFrame : s.line.ownFrame = none
  collided : s.line.collided = false
  notes : NotesBounded s

namespace FrameOver

variable {s : State} {x : Option Carrier}

theorem nodup (h : FrameOver s x) : (s.queue.entries.map Entry.owner).Nodup := h.slots.1

theorem withPool (h : FrameOver s x) (p : Pool) : FrameOver (s.withPool p) x := { h with }

/-- The controller lets go of what it carried (R26, R27, R33). -/
theorem of_line {l : Line} (h : InOrder s) (hown : l.ownFrame = none) (hcollided : l.collided = false)
    (hheld : l.heldNotes = s.line.heldNotes) : FrameOver (s.withLine l) s.line.offer :=
  ⟨h.queue.slots, h.queue.owed, h.onlyCarries, hown, hcollided, by
    have hnotes := h.notes
    rwa [NotesBounded, ← hheld] at hnotes⟩

/-- A controller that carried nothing of its own. -/
theorem of_line_none {l : Line} (h : InOrder s) (hf : s.line.ownFrame = none) (hown : l.ownFrame = none)
    (hcollided : l.collided = false) (hheld : l.heldNotes = s.line.heldNotes) : FrameOver (s.withLine l) none :=
  { of_line h hown hcollided hheld with carries := h.carries_none hf }

/-- The queue once nothing of it is on the line. -/
theorem withQueue (h : FrameOver s x) {q : TxQueue} (hslots : SlotsWellKept q) (hu : AllUnsent q) : InOrder (s.withQueue q) :=
  .of_unsent hslots hu (by simp [h.ownFrame]) (by simp [h.collided]) h.notes

theorem unsent (h : FrameOver s x) (hu : AllUnsent s.queue) : InOrder s := h.withQueue h.slots hu

theorem inOrder (h : FrameOver s none) : InOrder s := h.unsent (h.carries.unsent_of_none h.nodup h.owed)

end FrameOver

/-! ### Own frames accepted (R46) -/

theorem removeAccepted_slots {q : TxQueue} (h : SlotsWellKept q) : SlotsWellKept (removeAccepted q) := by
  obtain ⟨hn, hfit, hstop, hcensus⟩ := h
  refine ⟨(List.filter_sublist.map _).nodup hn, fun e he => hfit e (mem_removeAccepted.mp he).1, fun a ha => ?_, fun a ha => ?_⟩
  · simp only [removeAccepted] at ha
    split at ha
    · split at ha <;> simp at ha
      simp [← ha]
    · exact hstop a ha
  · simp only [removeAccepted] at ha
    split at ha
    · simp at ha
    · exact hcensus a ha

/-- What was on the line is gone, and the raise alone is still deferred. -/
theorem removeAccepted_unsent (q : TxQueue) (ho : OwedBehindLine q) :
    AllUnsent { removeAccepted q with deferredRaise := false } where
  entries := fun e he => (mem_removeAccepted.mp he).2
  stop := fun a ha => by
    simp only [removeAccepted] at ha
    split at ha
    · split at ha <;> simp at ha
      simp [← ha]
    · rename_i hnone
      rw [Option.mem_def.mp ha] at hnone
      simpa using hnone
  census := fun a ha => by
    simp only [removeAccepted] at ha
    split at ha
    · simp at ha
    · rename_i hnone
      rw [Option.mem_def.mp ha] at hnone
      simpa using hnone
  stopOwed := by
    simp only [removeAccepted]
    split
    · rfl
    · rename_i hnone
      refine Bool.eq_false_of_not_eq_true fun hs => hnone ?_
      have hany := ho.1 hs
      rw [Option.any_eq_true] at hany ⊢
      obtain ⟨a, ha, hon⟩ := hany
      exact ⟨a, ha, Bool.and_elim_left hon⟩
  deferred := rfl

/-- The report of an accepted frame puts the queue in order: an own frame's is removed, another's leaves nothing to remove. -/
theorem FrameOver.reportAccepted {s : State} {x : Option Carrier} {own : Bool} (h : FrameOver s x)
    (hx : own = false → x = none) : InOrder (reportAccepted own s) := by
  cases own
  · rw [hx rfl] at h
    exact h.inOrder
  · exact .settleRaise (s := s.withQueue (removeAccepted s.queue))
      (h.withQueue (removeAccepted_slots h.slots) (removeAccepted_unsent s.queue h.owed))

/-! ### Failed attempts (R30, R31) -/

theorem bump_slots {q : TxQueue} (h : SlotsWellKept q) {e : Entry} (he : e ∈ q.entries) (hcount : e.attempts < Config.maxAttempts) :
    SlotsWellKept (q.bump e.owner) := by
  obtain ⟨hn, hfit, hstop, hcensus⟩ := h
  refine ⟨?_, fun d hd => ?_, hstop, hcensus⟩
  · have howners : ∀ d : Entry, (if d.owner = e.owner then { d with attempts := d.attempts + 1, onLine := false } else d).owner
        = d.owner := fun d => by split <;> rfl
    simpa only [TxQueue.bump, List.map_map, Function.comp_def, howners] using hn
  · obtain ⟨b, hb, rfl⟩ := List.mem_map.mp hd
    obtain ⟨hkind, hmax⟩ := hfit b hb
    split
    · rename_i ho
      exact ⟨hkind, by rw [entry_unique hn hb he ho]; exact hcount⟩
    · exact ⟨hkind, hmax⟩

/-- What failed is unsent again; a raise may still be deferred behind a SHED that failed. -/
theorem bump_unsent {q : TxQueue} {o : Owner} (h : OnlyCarries q (some (.entry o))) (ho : OwedBehindLine q) :
    AllUnsent { q.bump o with deferredRaise := false } where
  entries := fun d hd => by
    obtain ⟨b, hb, rfl⟩ := List.mem_map.mp hd
    split
    · rfl
    · rename_i hne
      refine Bool.eq_false_of_not_eq_true fun hon => hne ?_
      simpa using (h.entries b hb hon).symm
  stop := fun a ha => Bool.eq_false_of_not_eq_true fun hon => by simpa using h.stop a ha hon
  census := fun a ha => Bool.eq_false_of_not_eq_true fun hon => by simpa using h.census a ha hon
  stopOwed := Bool.eq_false_of_not_eq_true fun hs => by simpa using h.stop_of_owed ho hs
  deferred := rfl

theorem deferred_bump {q : TxQueue} {o : Owner} (h : OnlyCarries q (some (.entry o))) (hn : (q.entries.map Entry.owner).Nodup)
    (ho : OwedBehindLine q) (hne : o ≠ .shed) : { q.bump o with deferredRaise := false } = q.bump o := by
  have hd : q.deferredRaise = false := Bool.eq_false_of_not_eq_true fun hd => hne (by
    simpa using h.shed_of_deferred hn ho hd)
  rw [TxQueue.bump, hd]

end Sys2Proof.Machine
end

section
/-! The channel controller keeps the transmit queue in order (spec/06_output_channels.md R112 to R129): it places and rewrites frames of
the channel's own slot, and removes none that is on the line. -/

namespace Sys2Proof.Machine

open Sys2Proof.Safety

namespace InOrder

variable {s : State}

/-! ### Starting -/

theorem placeFull (h : InOrder s) (c : ChanNo) : InOrder (placeFull s c) := h.place rfl
theorem rewriteFull (h : InOrder s) (c : ChanNo) : InOrder (rewriteFull s c) := h.rewrite rfl
theorem placeWithdraw (h : InOrder s) (c : ChanNo) : InOrder (placeWithdraw s c) := h.place rfl
theorem placeClaim (h : InOrder s) (c : ChanNo) (r : StartRequest) : InOrder (placeClaim s c r) := h.place rfl
theorem enterInrush (h : InOrder s) (c : ChanNo) : InOrder (enterInrush s c) := h.congr rfl rfl rfl
theorem leaveStartQueue (h : InOrder s) (c : ChanNo) : InOrder (leaveStartQueue s c) := h.withChan _

theorem startHead (h : InOrder s) : InOrder (startHead s) := by
  unfold Machine.startHead
  split
  · exact h
  · exact (h.withChan _).enterInrush _

theorem joinStartQueue (h : InOrder s) (c : ChanNo) : InOrder (joinStartQueue s c) :=
  .ite (fun _ => (h.withChan _).startHead) fun _ => h.withChan _

theorem leaveProbe (h : InOrder s) (c : ChanNo) : InOrder (leaveProbe s c) := .ite (fun _ => h.withProbe _) fun _ => h.withProbe _

theorem joinProbe (h : InOrder s) (c : ChanNo) : InOrder (joinProbe s c) := .ite (fun _ => h.withProbe _) fun _ => h.withProbe _

theorem startChannel (h : InOrder s) (c : ChanNo) (r : StartRequest) : InOrder (startChannel s c r) :=
  .ite (fun _ => (h.setChannel c _).joinProbe c) fun _ => (h.setChannel c _).placeClaim c r

theorem inrushOver (h : InOrder s) (c : ChanNo) : InOrder (inrushOver s c) :=
  .ite (fun _ => (h.updChannel c _).place rfl) fun _ => h.updChannel c _

/-! ### Leaving service -/

theorem stopDriving (h : InOrder s) (c : ChanNo) (busy idle : ChState) : InOrder (stopDriving s c busy idle) := by
  unfold Machine.stopDriving
  dsimp only
  split
  · exact .ite (fun _ => (h.placeFull c).setChannel c _) fun _ => h.setChannel c _
  · exact .ite (fun _ => h.setChannel c _) fun _ => (h.rewriteFull c).setChannel c _

theorem leaveService (h : InOrder s) (c : ChanNo) : InOrder (leaveService s c) := by
  unfold Machine.leaveService
  dsimp only
  split
  case h_1 => exact (h.leaveProbe c).setChannel c _
  case h_2 => exact .ite (fun _ => h.setChannel c _) fun _ => (h.dropEntry _).setChannel c _
  case h_3 => exact (h.placeWithdraw c).setChannel c _
  case h_4 => exact (h.placeFull c).setChannel c _
  case h_5 => exact ((h.leaveStartQueue c).placeFull c).setChannel c _
  case h_6 => exact h.stopDriving c _ _
  case h_7 => exact h.stopDriving c _ _
  all_goals exact h

theorem writeRecord (h : InOrder s) (c : ChanNo) (k : FaultKind) (b : Bool) (v : Nat) (found : ChState) :
    InOrder (writeRecord s c k b v found) := by
  have hput : ∀ r : FaultRecord, InOrder ((s.updChannel c fun x => { x with fault := some r }).raise (.fault c)) :=
    fun r => (h.updChannel c _).raise _
  unfold Machine.writeRecord
  dsimp only
  split
  · exact hput _
  · exact .ite (fun _ => h) fun _ => .ite (fun _ => hput _) fun _ => hput _

theorem faultChannel (h : InOrder s) (c : ChanNo) : InOrder (faultChannel s c) := (h.stopDriving c _ _).raise _

theorem openLoadFound (h : InOrder s) (c : ChanNo) (x : Nat) : InOrder (openLoadFound s c x) :=
  .ite (fun _ => (h.writeRecord c _ _ _ _).updChannel c _) fun _ => (h.writeRecord c _ _ _ _).faultChannel c

theorem sweepChannel (h : InOrder s) (c : ChanNo) (r : Reason) : InOrder (sweepChannel s c r) := by
  have hswept : ∀ x : Channel, InOrder ((Machine.leaveStartQueue (s.dropEntry (.channel c)) c).setChannel c x) :=
    fun x => ((h.dropEntry _).leaveStartQueue c).setChannel c x
  unfold Machine.sweepChannel
  dsimp only
  split
  case h_1 => exact h
  case h_2 => exact h
  case h_3 => exact (h.dropEntry _).setChannel c _
  case h_4 => exact ((h.leaveProbe c).setChannel c _).raise _
  case h_5 => exact (h.dropEntry _).setChannel c _
  all_goals exact (hswept _).raise _

theorem shedOutcome (h : InOrder s) (l : ShedLevel) : InOrder (shedOutcome s l) :=
  h.foldl (fun _ c ht => .ite (fun _ => ht.sweepChannel c _) fun _ => ht) allChannels

theorem stoppedOutcome (h : InOrder s) (all : Bool) : InOrder (stoppedOutcome s all) :=
  (h.foldl (f := fun t c => Machine.sweepChannel t c .stopped) (fun _ c ht => ht.sweepChannel c _) allChannels).withChan _

theorem retire (h : InOrder s) (r : Reason) : InOrder (retire s r) := by
  refine h.foldl (fun t c ht => ?_) allChannels
  refine .ite (fun _ => InOrder.raise (updChannel ?_ c _) _) fun _ => ht
  exact .ite (fun _ => (ht.stopDriving c _ _).writeRecord c _ _ _ _) fun _ => ht.leaveService c

/-! ### Outcomes of the pool -/

theorem takeGrant (h : InOrder s) (c : ChanNo) (u : Nat) (g : GroupNo) : InOrder (takeGrant s c u g) :=
  .ite (fun _ => (h.updChannel c _).joinStartQueue c) fun _ => h.updChannel c _

theorem grantedOutcome (h : InOrder s) (c : ChanNo) (u : Nat) (g : GroupNo) (b : Bool) : InOrder (grantedOutcome s c u g b) := by
  unfold Machine.grantedOutcome
  dsimp only
  split
  · exact .ite (fun _ => h.takeGrant c u g) fun _ => h
  · exact h.takeGrant c u g
  · exact .ite (fun _ => (h.setChannel c _).placeFull c) fun _ => h
  · exact .ite (fun _ => (h.setChannel c _).rewriteFull c) fun _ => h
  · exact h

theorem waitingOutcome (h : InOrder s) (c : ChanNo) : InOrder (waitingOutcome s c) := by
  unfold Machine.waitingOutcome
  dsimp only
  split
  · exact .ite (fun _ => h.setChannel c _) fun _ => h
  · exact .ite (fun _ => (h.setChannel c _).placeWithdraw c) fun _ => h
  · exact h

theorem refusedOutcome (h : InOrder s) (c : ChanNo) (r : Reason) : InOrder (refusedOutcome s c r) := by
  unfold Machine.refusedOutcome
  dsimp only
  split
  · exact .ite (fun _ => (h.setChannel c _).raise _) fun _ => h
  · exact .ite (fun _ => h.setChannel c _) fun _ => h
  · exact h

theorem claimOutcome (h : InOrder s) (c : ChanNo) (u : Nat) (g : GroupNo) (v : ClaimVerdict) : InOrder (claimOutcome s c u g v) := by
  cases v with
  | granted => exact h.grantedOutcome c u g false
  | waiting => exact h.waitingOutcome c
  | refused r => exact h.refusedOutcome c r

theorem grantOutcomes (h : InOrder s) (w : List WaitEntry) : InOrder (grantOutcomes s w) := by
  induction w generalizing s with
  | nil => exact h
  | cons e rest ih => exact ih (.ite (fun _ => h.grantedOutcome _ _ _ _) fun _ => h)

theorem afterRelease (h : InOrder s) (c : ChanNo) : InOrder (afterRelease s c) := by
  have hs := h.setChannel c { s.channel c with followUp := false }
  unfold Machine.afterRelease
  dsimp only
  split
  · exact .ite (fun _ => .ite (fun _ => hs.placeFull c) fun _ => hs.updChannel c _) fun _ => h
  · exact .ite (fun _ => .ite (fun _ => hs.placeFull c) fun _ => hs) fun _ => h
  · exact h

theorem releaseOutcome (h : InOrder s) (c : ChanNo) (u : Nat) (f : ReleaseForm) : InOrder (releaseOutcome s c u f) := by
  cases f with
  | trim => exact (h.updChannel c _).afterRelease c
  | full => exact (h.updChannel c _).afterRelease c
  | withdraw => exact h.afterRelease c

theorem goOutcome (h : InOrder s) (g : GroupNo) : InOrder (goOutcome s g) := by
  have hstarted := h.foldl (f := Machine.enterInrush) (fun _ c ht => ht.enterInrush c) (allChannels.filter (armedIn s g))
  exact .ite (fun _ => .ite (fun _ => hstarted.withChan _) fun _ => hstarted) fun _ => h

theorem settleSpoil (h : InOrder s) (c : ChanNo) : InOrder (settleSpoil s c) :=
  .ite (fun _ => .ite (fun _ => (h.dropEntry _).setChannel c _) fun _ => (h.rewriteFull c).setChannel c _) fun _ => h

/-! ### The probe unit, faults and the stop latch -/

theorem probePassed (h : InOrder s) (c : ChanNo) : InOrder (probePassed s c) := by
  unfold Machine.probePassed
  dsimp only
  split
  · exact (h.setChannel c _).placeClaim c _
  · exact h

theorem probeFailed (h : InOrder s) (c : ChanNo) (k : FaultKind) (n : Nat) : InOrder (probeFailed s c k n) :=
  ((h.updChannel c _).writeRecord c k true n .probing).raise _

theorem clearFault (h : InOrder s) (c : ChanNo) : InOrder (clearFault s c) := h.setChannel c _

theorem setLatch (h : InOrder s) : InOrder (setLatch s) := (h.withChan _).requestStopAll

end InOrder

end Sys2Proof.Machine
end

section
/-! The line controller and the accepted frames keep the transmit queue in order (spec/02_the_share_line.md R19 to R37;
spec/04_claims_releases_and_the_wait_list.md R57 to R78; spec/05_membership_and_census.md R84 to R100). -/

namespace Sys2Proof.Machine

open Sys2Proof.Safety

/-- Every next state that the result holds is in order. -/
def AnswersInOrder (r : Result) : Prop := ∀ t, r = .next t → InOrder t

namespace AnswersInOrder

variable {s t : State}

theorem next (h : InOrder t) : AnswersInOrder (.next t) := by
  intro u hu
  cases hu
  exact h

theorem answered (h : InOrder t) (o : ReqOutcome) (v : BitVec 16) : AnswersInOrder (.next (answered s t o v)) :=
  next (h.withPort rfl)

theorem refuse (h : InOrder s) (o : ReqOutcome) : AnswersInOrder (refuse s o) := answered h o 0

theorem accept (h : InOrder t) : AnswersInOrder (accept s t) := answered h .accepted 0

theorem acceptValue (h : InOrder t) (v : BitVec 16) : AnswersInOrder (acceptValue s t v) := answered h .accepted v

theorem request (h : InOrder s) {r : Result} (hr : AnswersInOrder r) : AnswersInOrder (request s r) := by
  unfold Machine.request
  split
  · exact next h
  · exact hr

end AnswersInOrder

/-! ### The end of a frame -/

section
variable {s : State}

theorem FrameOver.enterHolding (h : InOrder s) : FrameOver (enterHolding s) s.line.offer := .of_line h rfl rfl rfl

theorem FrameOver.enterHolding_none (h : InOrder s) (hf : s.line.ownFrame = none) : FrameOver (Machine.enterHolding s) none :=
  .of_line_none h hf rfl rfl rfl

theorem FrameOver.backToIdle (h : InOrder s) : FrameOver (backToIdle s) s.line.offer := .of_line h rfl rfl rfl

theorem InOrder.backToIdle (h : InOrder s) (hf : s.line.ownFrame = none) : InOrder (backToIdle s) :=
  (FrameOver.of_line_none (l := lineAfter s.line .idle) h hf rfl rfl rfl).inOrder

/-- The line controller moves where it carries nothing of its own. -/
theorem InOrder.withLine {l : Line} (h : InOrder s) (hf : s.line.ownFrame = none) (hown : l.ownFrame = none)
    (hcollided : l.collided = false) (hheld : l.heldNotes = s.line.heldNotes) : InOrder (s.withLine l) :=
  (FrameOver.of_line_none h hf hown hcollided hheld).inOrder

/-- A failed attempt counts and makes what failed unsent, or isolates (R30, R31, R46). -/
theorem FrameOver.failCarried {x : Option Carrier} (h : FrameOver s x) (hp : s.participating = true) :
    InOrder (failCarried s x) := by
  have hisolated : InOrder (Machine.isolate s .line) := .isolate h.notes (fun hn => by simp [hp] at hn) _
  have hslots := h.slots
  obtain ⟨hn, hfit, hstops, hcensuses⟩ := hslots
  cases x with
  | none => exact h.inOrder
  | some c =>
    cases c with
    | stop =>
      simp only [Machine.failCarried, failedAttempt]
      split
      case h_1 hnone =>
        exact h.unsent (h.carries.unsent hn h.owed (by simp) (fun _ => hnone) (by simp))
      case h_2 a hsome =>
        refine .ite (fun hcount => h.withQueue ?_ ?_) fun _ => hisolated
        · exact ⟨hn, hfit, by simpa using hcount, hcensuses⟩
        · have hdeferred : s.queue.deferredRaise = false := Bool.eq_false_of_not_eq_true fun hd => by
            simpa using h.carries.shed_of_deferred hn h.owed hd
          exact ⟨fun e he => Bool.eq_false_of_not_eq_true fun hon => by simpa using h.carries.entries e he hon, by simp,
            fun b hb => Bool.eq_false_of_not_eq_true fun hon => by simpa using h.carries.census b hb hon, rfl, hdeferred⟩
    | census =>
      simp only [Machine.failCarried, failedAttempt]
      split
      case h_1 hnone =>
        exact h.unsent (h.carries.unsent hn h.owed (by simp) (by simp) fun _ => hnone)
      case h_2 a hsome =>
        refine .ite (fun hcount => h.withQueue ?_ ?_) fun _ => hisolated
        · exact ⟨hn, hfit, hstops, by simpa using hcount⟩
        · have hdeferred : s.queue.deferredRaise = false := Bool.eq_false_of_not_eq_true fun hd => by
            simpa using h.carries.shed_of_deferred hn h.owed hd
          have howed : s.queue.stopOwed = false := Bool.eq_false_of_not_eq_true fun hs => by
            simpa using h.carries.stop_of_owed h.owed hs
          exact ⟨fun e he => Bool.eq_false_of_not_eq_true fun hon => by simpa using h.carries.entries e he hon,
            fun b hb => Bool.eq_false_of_not_eq_true fun hon => by simpa using h.carries.stop b hb hon, by simp, howed, hdeferred⟩
    | entry o =>
      simp only [Machine.failCarried, failedAttempt]
      split
      case h_1 hnone =>
        rw [TxQueue.entryOf_none] at hnone
        exact h.unsent (h.carries.unsent hn h.owed (fun e he hx => hnone e he (by simpa using hx.symm)) (by simp) (by simp))
      case h_2 e hsome =>
        refine .ite (fun hcount => ?_) fun _ => hisolated
        obtain ⟨ho, hm⟩ := TxQueue.entryOf_some hsome
        have hbumped := h.withQueue (q := { s.queue.bump o with deferredRaise := false })
          (ho ▸ bump_slots h.slots hm hcount) (bump_unsent h.carries h.owed)
        have hother : o ≠ .shed → InOrder (s.withQueue (s.queue.bump o)) := fun hne => by
          rwa [deferred_bump h.carries hn h.owed hne] at hbumped
        cases o with
        | shed => exact .settleRaise hbumped
        | channel c => exact (hother (by simp)).settleSpoil c
        | membership => exact hother (by simp)
        | go => exact hother (by simp)
        | note => exact hother (by simp)

/-! ### The win (R45, R46) -/

theorem setOnLine_slots {q : TxQueue} (h : SlotsWellKept q) (c : Carrier) : SlotsWellKept (setOnLine q c) := by
  obtain ⟨hn, hfit, hstop, hcensus⟩ := h
  cases c with
  | stop =>
    refine ⟨hn, hfit, fun a ha => ?_, hcensus⟩
    obtain ⟨b, hb, rfl⟩ := Option.map_eq_some_iff.mp ha
    exact hstop b hb
  | census =>
    refine ⟨hn, hfit, hstop, fun a ha => ?_⟩
    obtain ⟨b, hb, rfl⟩ := Option.map_eq_some_iff.mp ha
    exact hcensus b hb
  | entry o =>
    refine ⟨?_, fun e he => ?_, hstop, hcensus⟩
    · have howners : ∀ e : Entry, (if e.owner = o then { e with onLine := true } else e).owner = e.owner :=
        fun e => by split <;> rfl
      simpa only [setOnLine, TxQueue.markOnLine, List.map_map, Function.comp_def, howners] using hn
    · obtain ⟨d, hd, rfl⟩ := List.mem_map.mp he
      split
      · exact hfit d hd
      · exact hfit d hd

/-- What the win sets on the line is the offer alone, where nothing was on it. -/
theorem setOnLine_carries {q : TxQueue} (h : AllUnsent q) (c : Carrier) : OnlyCarries (setOnLine q c) (some c) := by
  have hentries : ∀ e ∈ q.entries, ¬ e.onLine = true := fun e he => by simp [h.entries e he]
  have hstop : ∀ a ∈ q.stop, ¬ a.onLine = true := fun a ha => by simp [h.stop a ha]
  have hcensus : ∀ a ∈ q.census, ¬ a.onLine = true := fun a ha => by simp [h.census a ha]
  cases c with
  | stop => exact ⟨fun e he hon => absurd hon (hentries e he), fun _ _ _ => rfl, fun a ha hon => absurd hon (hcensus a ha)⟩
  | census => exact ⟨fun e he hon => absurd hon (hentries e he), fun a ha hon => absurd hon (hstop a ha), fun _ _ _ => rfl⟩
  | entry o =>
    refine ⟨fun e he hon => ?_, fun a ha hon => absurd hon (hstop a ha), fun a ha hon => absurd hon (hcensus a ha)⟩
    obtain ⟨d, hd, rfl⟩ := List.mem_map.mp he
    split at hon
    · rename_i ho
      rw [if_pos ho, ← ho]
    · exact absurd hon (hentries d hd)

theorem setOnLine_owed (q : TxQueue) (c : Carrier) :
    (setOnLine q c).stopOwed = q.stopOwed ∧ (setOnLine q c).deferredRaise = q.deferredRaise := by
  cases c <;> exact ⟨rfl, rfl⟩

theorem InOrder.winArbitration (h : InOrder s) (hs : s.line.state = .arbitrating) : InOrder (winArbitration s) := by
  have hf : s.line.ownFrame = none := h.ownFrame_none (by simp [hs]) (by simp [hs])
  have hcollided : s.line.collided = false := h.not_collided (by simp [hs])
  unfold Machine.winArbitration
  split
  case h_2 => exact h.withLine hf hf hcollided rfl
  case h_1 c f hread =>
    obtain ⟨d, hoffer, hbody⟩ := Option.bind_eq_some_iff.mp hread
    obtain ⟨g, -, hpair⟩ := Option.map_eq_some_iff.mp hbody
    cases hpair
    have hu := h.unsent hf
    obtain ⟨hentries, hstop, hcensus⟩ := setOnLine_carries hu c
    obtain ⟨howed, hdeferred⟩ := setOnLine_owed s.queue c
    refine ⟨⟨setOnLine_slots h.queue.slots c, ⟨?_, ?_, ?_, fun _ => .inl rfl, fun _ => rfl⟩, ?_, ?_⟩, h.notes⟩
    · exact fun e he hon => ⟨rfl, hoffer.trans (hentries e he hon)⟩
    · exact fun a ha hon => ⟨rfl, hoffer.trans (hstop a ha hon)⟩
    · exact fun a ha hon => ⟨rfl, hoffer.trans (hcensus a ha hon)⟩
    · exact fun ho => by simp [howed, hu.stopOwed] at ho
    · exact fun hd => by simp [hdeferred, hu.deferred] at hd

/-! ### Accepted frames -/

/-- Only the sender of a frame has one of its own when it ends: at a receiver and at a controller that reads on nothing is on the
line. -/
theorem frameRole_ownFrame (h : InOrder s) {n : StationNo} {f : Frame}
    (hr : frameRole s n f = .peer ∨ frameRole s n f = .bystander) : s.line.ownFrame = none := by
  refine h.ownFrame_none (fun hs => ?_) fun hs => ?_
  · unfold frameRole at hr
    rw [hs] at hr
    split at hr
    · simp at hr
    · dsimp only at hr
      split at hr <;> simp at hr
  · unfold frameRole at hr
    rw [hs] at hr
    split at hr <;> simp at hr

theorem censusRole_ownFrame (h : InOrder s) {n : StationNo} {x : CensusHeader}
    (hr : censusRole s n x = .peer ∨ censusRole s n x = .bystander) : s.line.ownFrame = none := by
  unfold censusRole at hr
  split at hr
  · split at hr
    · split at hr
      · simp at hr
      · rename_i hnone
        simpa using hnone
    · simp at hr
  · simp at hr
  · exact frameRole_ownFrame h hr

theorem AnswersInOrder.acceptFrame {role : FrameRole} {effect : Bool → State → State} (h : InOrder s)
    (hrole : role = .peer ∨ role = .bystander → s.line.ownFrame = none)
    (heffect : ∀ (own : Bool) (u : State) (x : Option Carrier), FrameOver u x → (own = false → x = none) → InOrder (effect own u)) :
    AnswersInOrder (acceptFrame s role effect) := by
  cases role with
  | own => exact next (heffect true _ _ (.enterHolding h) (by simp))
  | peer => exact next (heffect false _ _ (.enterHolding_none h (hrole (.inl rfl))) fun _ => rfl)
  | bystander => exact next (h.backToIdle (hrole (.inr rfl)))
  | unheard => exact next h

end

section
variable {s : State} {own : Bool} {x : Option Carrier}

theorem InOrder.ifJoined {t : State} (h : FrameOver s x) (hx : own = false → x = none) (ht : InOrder t) :
    InOrder (ifJoined own s t) := .ite (fun _ => ht) fun _ => h.reportAccepted hx

theorem InOrder.coverStop {s : State} (h : InOrder s) (own : Bool) (a : Option StationNo) : InOrder (coverStop own a s) :=
  .ite (fun _ => h) fun _ => h.withdrawStop a

/-- The pool change comes first, then the report of the frame, in a station whose queue it puts in order. -/
theorem FrameOver.reportAccepted_withPool (h : FrameOver s x) (hx : own = false → x = none) (p : Pool) :
    InOrder (Machine.reportAccepted own (s.withPool p)) := (h.withPool p).reportAccepted hx

theorem claimEffect_inOrder (h : FrameOver s x) (hx : own = false → x = none) (n : StationNo) (c : ChanNo) (k : PriClass) (u : Nat)
    (g : GroupNo) (w : Bool) : InOrder (claimEffect n c k u g w own s) := by
  have hreported := h.reportAccepted_withPool hx (applyClaim s.limit s.pool n c k u g w).1
  exact .ifJoined h hx (.grantOutcomes (.ite (fun _ => hreported.claimOutcome _ _ _ _) fun _ => hreported) _)

theorem releaseEffect_inOrder (h : FrameOver s x) (hx : own = false → x = none) (change : State → Pool × List WaitEntry)
    (n : StationNo) (c : ChanNo) (u : Nat) (f : ReleaseForm) : InOrder (releaseEffect change n c u f own s) := by
  have hreported := h.reportAccepted_withPool hx (change s).1
  exact .ifJoined h hx (.grantOutcomes (.ite (fun _ => hreported.releaseOutcome _ _ _) fun _ => hreported) _)

theorem goEffect_inOrder (h : FrameOver s x) (hx : own = false → x = none) (g : GroupNo) : InOrder (goEffect g own s) :=
  .ifJoined h hx ((((h.reportAccepted hx).goOutcome g).withMonitor _).raise _)

theorem shedSetEffect_inOrder (h : FrameOver s x) (hx : own = false → x = none) (l : ShedLevel) :
    InOrder (shedSetEffect l own s) := by
  have hreported := h.reportAccepted_withPool hx (applyShedSet s.limit s.pool l).1
  have hgranted := (InOrder.ite (p := s.pool.level < l) (fun _ => hreported.shedOutcome l) fun _ => hreported).grantOutcomes
    (applyShedSet s.limit s.pool l).2
  exact .ifJoined h hx (.ite (fun _ => hgranted.raise _) fun _ => hgranted)

theorem shedRaiseEffect_inOrder (h : FrameOver s x) (hx : own = false → x = none) (p : ShedLevel) :
    InOrder (shedRaiseEffect p own s) :=
  .ite (fun _ => shedSetEffect_inOrder h hx _) fun _ => h.reportAccepted hx

theorem stopAllEffect_inOrder (h : FrameOver s x) (hx : own = false → x = none) : InOrder (stopAllEffect own s) :=
  .ifJoined h hx ((((h.reportAccepted_withPool hx _).coverStop own none).stoppedOutcome true).grantOutcomes _)

theorem stopStationEffect_inOrder (h : FrameOver s x) (hx : own = false → x = none) (t : StationNo) :
    InOrder (stopStationEffect t own s) := by
  have hcovered := (h.reportAccepted_withPool hx (applyStopStation s.limit s.pool t).1).coverStop own (some t)
  exact .ifJoined h hx (.grantOutcomes (.ite (fun _ => hcovered.stoppedOutcome false) fun _ => hcovered) _)

/-! ### Notes (R166, R29) -/

/-- A note is placed where there is room, or held where there is none. -/
theorem InOrder.placeNote {s : State} (h : InOrder s) (hroom : s.port.notes.length < Config.noteCapacity) (n : Note) :
    InOrder (placeNote s n) := by
  obtain ⟨hqueue, -, hheld⟩ := h
  refine ⟨{ hqueue with }, ?_, fun hne => absurd (hheld hne) hroom.ne⟩
  change (s.port.notes ++ [n]).length ≤ _
  simpa using hroom

theorem InOrder.holdNote {s : State} (h : InOrder s) (hfull : ¬ s.port.notes.length < Config.noteCapacity) (n : Note) :
    InOrder (s.withLine { s.line with heldNotes := s.line.heldNotes ++ [n] }) :=
  ⟨{ h.queue with }, h.notes.1, fun _ => h.notes.1.antisymm (not_lt.mp hfull)⟩

theorem noteEffect_inOrder (h : FrameOver s x) (hx : own = false → x = none) (n : Note) : InOrder (noteEffect n own s) := by
  have hreported := h.reportAccepted hx
  exact .ifJoined h hx
    (.ite (fun _ => .ite (fun hroom => hreported.placeNote hroom n) fun hfull => hreported.holdNote hfull n) fun _ => hreported)

theorem InOrder.dropHead {s : State} (h : InOrder s) : InOrder (dropHead s) := by
  obtain ⟨hqueue, hcount, hheld⟩ := h
  unfold Machine.dropHead
  dsimp only
  split
  case h_1 n rest hnotes =>
    have hfull := hheld (by simp [hnotes])
    refine ⟨{ hqueue with }, ?_, fun _ => ?_⟩
    · change (s.port.notes.tail ++ [n]).length ≤ Config.noteCapacity
      simp [hfull, Config.noteCapacity]
    · change (s.port.notes.tail ++ [n]).length = Config.noteCapacity
      simp [hfull, Config.noteCapacity]
  case h_2 hnone =>
    refine ⟨{ hqueue with }, ?_, fun hne => absurd hnone hne⟩
    change s.port.notes.tail.length ≤ Config.noteCapacity
    exact (by simp : s.port.notes.tail.length ≤ s.port.notes.length).trans hcount

theorem InOrder.releaseHold {s : State} (h : InOrder s) : InOrder (releaseHold s) := by
  refine ⟨{ h.queue with }, h.notes.1, fun hne => h.notes.2 fun hnone => hne ?_⟩
  change s.line.heldNotes.tail = []
  rw [hnone]
  rfl

/-! ### JOIN, SNAPSHOT and CENSUS -/

theorem InOrder.isolateOf {s : State} (h : InOrder s) (r : IsoReason) : InOrder (Machine.isolate s r) := .isolate h.notes (fun _ => h) r

theorem memberJoin_inOrder {s : State} (h : InOrder s) (n : StationNo) (t : Terms) : InOrder (memberJoin n t s) :=
  .ite (fun _ => h.isolateOf _)
    fun _ => .ite (fun _ => ((h.withPool _).grantOutcomes _).place rfl) fun _ => h.place rfl

theorem joinEffect_inOrder (h : FrameOver s x) (hx : own = false → x = none) (n : StationNo) (t : Terms) :
    InOrder (joinEffect n t own s) := by
  have hreported := h.reportAccepted hx
  unfold joinEffect
  split
  case h_1 =>
    cases own
    · exact hreported
    · exact hreported.withMember _
  case h_2 => exact memberJoin_inOrder hreported n t
  all_goals exact hreported

theorem snapshotEffect_inOrder (h : FrameOver s x) (hx : own = false → x = none) (t : Terms) (p : Pool) :
    InOrder (snapshotEffect t p own s) := by
  have hreported := h.reportAccepted hx
  unfold snapshotEffect
  split
  case h_1 =>
    refine .ite (fun _ => hreported.isolateOf _) fun _ => .ite (fun _ => ?_) fun _ => hreported
    exact (((hreported.withPool p).withMember _).withdrawCensus).raise _
  case h_2 =>
    cases own
    · exact hreported.withdrawSnapshot
    · exact hreported
  all_goals exact hreported

theorem memberCounts_inOrder {s : State} (h : InOrder s) (y : CensusHeader) (m : Maps) : InOrder (memberCounts s y m) := by
  unfold memberCounts
  split
  · exact h.withMember _
  · exact ((h.withPool _).grantOutcomes _).withMember _

theorem memberCensus_inOrder {s : State} (h : InOrder s) (own : Bool) (y : CensusHeader) (m : Maps) :
    InOrder (memberCensus own s y m) := by
  have htimer := h.withMember { s.member with censusTimer := some s.interval }
  exact .ite (fun _ => htimer.isolateOf _)
    fun _ => .ite (fun _ => .ite (fun _ => htimer.isolateOf _) fun _ => htimer)
      fun _ => .ite (fun _ => htimer.isolateOf _) fun _ => memberCounts_inOrder htimer y m

theorem syncingCensus_inOrder {s : State} (h : InOrder s) (y : CensusHeader) (m : Maps) : InOrder (syncingCensus s y m) := by
  have htimer := h.withMember { s.member with syncTimer := some s.interval }
  refine .ite (fun _ => htimer) fun _ => .ite (fun _ => .ite (fun _ => ?_) fun _ => htimer.withMember _) fun _ => ?_
  · exact ((htimer.withPool _).withMember _).raise _
  · exact .ite (fun _ => (htimer.withMember _).withMember _) fun _ => (htimer.withMember _).isolateOf _

theorem censusEffect_inOrder (h : FrameOver s x) (hx : own = false → x = none) (y : CensusHeader) (m : Maps) :
    InOrder (censusEffect y m own s) := by
  have hwithdrawn := (h.reportAccepted hx).withdrawCensus
  unfold censusEffect
  dsimp only
  split
  case h_1 => exact memberCensus_inOrder hwithdrawn own y m
  case h_2 => exact syncingCensus_inOrder hwithdrawn y m
  all_goals exact hwithdrawn

end

end Sys2Proof.Machine
end

section
/-! Every command keeps the transmit queue and the notes in order (spec/03_the_transmit_queue.md R40 to R53; spec/09_host_port.md
R166). -/

namespace Sys2Proof.Machine

open Sys2Proof.Safety

variable {s : State}

/-! ### Resets and membership requests -/

/-- A station after a reset holds an empty queue and no note. -/
theorem inOrder_of_empty {t : State} (hq : t.queue = emptyQueue) (hl : t.line = offLine) (hn : t.port.notes = []) : InOrder t :=
  InOrder.congr ⟨queueKept_reset, by decide⟩ hq hl hn

theorem InOrder.csnRises (h : InOrder s) (bits : Nat) (die : Int) (vs : Nat) : InOrder (csnRises bits die vs s) := by
  have hport : InOrder (s.withPort { s.port with sampled := none, softReset := false }) := h.withPort rfl
  exact .ite (fun _ => .ite (fun _ => inOrder_of_empty rfl rfl rfl) fun _ => hport) fun _ => hport.raise _

theorem execTransactionEnd_inOrder (h : InOrder s) (edge : CsnEdge) (die : Int) (vs : Nat) :
    AnswersInOrder (execTransactionEnd edge die vs s) := by
  refine .next ?_
  split
  · exact h
  · exact h.withPort rfl
  · exact h.withPort rfl
  · exact h.csnRises _ die vs

theorem execUnknown_inOrder (h : InOrder s) (code : Byte) : AnswersInOrder (execUnknown code s) := by
  unfold execUnknown
  split
  · exact .next h
  · exact .request h (.refuse h _)

theorem execSetItem_inOrder (h : InOrder s) (i : Byte) (v : BitVec 16) : AnswersInOrder (execSetItem i v s) := by
  refine .request h ?_
  split
  · exact .refuse h _
  split
  · exact .refuse h _
  · exact .accept (h.withSettings _)

theorem execCommit_inOrder (h : InOrder s) : AnswersInOrder (execCommit s) := by
  refine .request h ?_
  split
  · exact .refuse h _
  split
  · exact .answered h _ _
  · exact .accept (h.congr rfl rfl rfl)

/-- A station that enters JOINING was OFF_LINE, so that nothing of its queue was on the line (R19, R83). -/
theorem InOrder.enterJoining (h : InOrder s) (hl : s.line.state = .offLine) : InOrder (enterJoining s) := by
  have hf := h.ownFrame_none (by simp [hl]) (by simp [hl])
  have hplaced : InOrder ((s.withMember { s.member with station := .joining, rejoinTimer := none, syncCount := 0 }).place
      .membership (.join s.termsHeld)) := (h.withMember _).place rfl
  have hfresh : freshLine.ownFrame = none ∧ freshLine.collided = false ∧ freshLine.heldNotes = [] := ⟨rfl, rfl, rfl⟩
  obtain ⟨hown, hcollided, hheld⟩ := hfresh
  exact .of_unsent (s := State.withLine _ freshLine) hplaced.queue.slots (hplaced.unsent hf) (by simp [hown]) (by simp [hcollided])
    ⟨h.notes.1, by simp [hheld]⟩

theorem offLine_of_not_participating (hf : LineFollowsStation s) (hp : s.participating = false) : s.line.state = .offLine :=
  not_not.mp fun hl => by simp [hf.mpr hl] at hp

theorem execStart_inOrder (h : InOrder s) (hf : LineFollowsStation s) : AnswersInOrder (execStart s) := by
  refine .request h ?_
  split
  · rename_i hs
    have hp : s.participating = false := by
      rcases hs with hs | hs <;> simp [State.participating, hs, StationState.participates]
    exact .accept (h.enterJoining (offLine_of_not_participating hf hp))
  · exact .refuse h _

theorem execRejoinTimerExpiry_inOrder (h : InOrder s) (hf : LineFollowsStation s) : AnswersInOrder (execRejoinTimerExpiry s) := by
  refine .next (.ite (fun hs => h.enterJoining (offLine_of_not_participating hf ?_)) fun _ => h)
  simp [State.participating, hs.2, StationState.participates]

/-! ### Requests -/

theorem startRequest_inOrder (h : InOrder s) (arm : Bool) (i : Byte) (v : BitVec 16) :
    AnswersInOrder (startRequest arm i v s) := by
  unfold startRequest
  split
  · split
    · exact .refuse h _
    · exact .accept (h.startChannel _ _)
  · exact .refuse h _

theorem execOff_inOrder (h : InOrder s) (i : Byte) : AnswersInOrder (execOff i s) := by
  refine .request h ?_
  split
  · exact .refuse h _
  split
  · exact .refuse h _
  · exact .accept (h.leaveService _)

theorem execClearFault_inOrder (h : InOrder s) (i : Byte) : AnswersInOrder (execClearFault i s) := by
  refine .request h ?_
  split
  · exact .refuse h _
  split
  · exact .refuse h _
  split
  · exact .refuse h _
  split
  · exact .refuse h _
  · exact .accept (h.clearFault _)

theorem execGo_inOrder (h : InOrder s) (i : Byte) : AnswersInOrder (execGo i s) := by
  refine .request h ?_
  split
  · exact .refuse h _
  split
  · exact .refuse h _
  split
  · exact .refuse h _
  split
  · exact .refuse h _
  · exact .accept (h.place rfl)

theorem execSetShed_inOrder (h : InOrder s) (i : Byte) : AnswersInOrder (execSetShed i s) := by
  refine .request h ?_
  split
  · exact .refuse h _
  split
  · exact .refuse h _
  split
  · exact .refuse h _
  · rename_i ht
    exact .accept (h.requestShed ht)

theorem execPoolStop_inOrder (h : InOrder s) : AnswersInOrder (execPoolStop s) := by
  refine .request h ?_
  split
  · exact .refuse h _
  · exact .accept h.setLatch

theorem execStationStop_inOrder (h : InOrder s) (i : Byte) : AnswersInOrder (execStationStop i s) := by
  refine .request h ?_
  split
  · exact .refuse h _
  split
  · exact .refuse h _
  split
  · exact .refuse h _
  · rename_i hq
    exact .accept (h.requestStopStation hq)

theorem execStopInputAssertion_inOrder (h : InOrder s) : AnswersInOrder (execStopInputAssertion s) := by
  have hstop := h.withStopInput true
  unfold execStopInputAssertion
  split
  · exact .next h
  · exact .next (.ite (fun _ => hstop.setLatch) fun _ => hstop)

theorem execStageNoteByte_inOrder (h : InOrder s) (i : Byte) (v : BitVec 16) : AnswersInOrder (execStageNoteByte i v s) := by
  refine .request h ?_
  split
  · exact .refuse h _
  split
  · exact .refuse h _
  · exact .accept (h.withPort rfl)

theorem execSendNote_inOrder (h : InOrder s) (i : Byte) (v : BitVec 16) : AnswersInOrder (execSendNote i v s) := by
  refine .request h ?_
  split
  · exact .refuse h _
  split
  · exact .refuse h _
  split
  · exact .refuse h _
  split
  · exact .refuse h _
  · exact .accept (h.place rfl)

theorem execReadNoteByte_inOrder (h : InOrder s) (i : Byte) : AnswersInOrder (execReadNoteByte i s) := by
  refine .request h ?_
  split
  · exact .refuse h _
  split
  · exact .refuse h _
  · exact .acceptValue h _

theorem execDropNote_inOrder (h : InOrder s) : AnswersInOrder (execDropNote s) := by
  refine .request h ?_
  split
  · exact .refuse h _
  · exact .accept h.dropHead

theorem execReadItem_inOrder (h : InOrder s) (i : Byte) (v : BitVec 16) : AnswersInOrder (execReadItem i v s) := by
  refine .request h ?_
  split
  · exact .refuse h _
  · exact .acceptValue h _

theorem execNextEvent_inOrder (h : InOrder s) : AnswersInOrder (execNextEvent s) := by
  refine .request h ?_
  split
  · exact .acceptValue h _
  · refine .acceptValue (t := s.withPort _) ?_ _
    exact h.withPort rfl

theorem execSetMask_inOrder (h : InOrder s) (i : Byte) (v : BitVec 16) : AnswersInOrder (execSetMask i v s) := by
  refine .request h ?_
  split
  · exact .accept (h.withPort rfl)
  · exact .refuse h _

/-! ### The share line -/

theorem InOrder.quietLine (h : InOrder s) : InOrder (quietLine s) :=
  .ite (fun hs => h.backToIdle (h.ownFrame_none (by simp [hs.1]) (by simp [hs.1]))) fun _ => h

theorem InOrder.opportunity (h : InOrder s) (hs : s.line.state = .idle) (edge : StartEdge) : InOrder (opportunity s edge) := by
  have hf := h.ownFrame_none (by simp [hs]) (by simp [hs])
  have hcollided := h.not_collided (by simp [hs])
  unfold Machine.opportunity
  split
  · exact h.withLine hf hf hcollided rfl
  · exact h.withLine hf hf hcollided rfl
  · exact h
  · exact h.withLine hf hf hcollided rfl
  · exact h.withLine hf hf hcollided rfl

theorem execIdleGap_inOrder (h : InOrder s) (edge : StartEdge) : AnswersInOrder (execIdleGap edge s) :=
  .next (.ite (fun hs => h.quietLine.opportunity hs.1 edge) fun _ => h.quietLine)

theorem execFirstIdleGap_inOrder (h : InOrder s) : AnswersInOrder (execFirstIdleGap s) := by
  refine .next (.ite (fun hs => ?_) fun _ => h)
  have hf := h.ownFrame_none (by simp [hs]) (by simp [hs])
  exact h.withLine hf hf (h.not_collided (by simp [hs])) rfl

theorem execArbitrationWon_inOrder (h : InOrder s) : AnswersInOrder (execArbitrationWon s) :=
  .next (.ite h.winArbitration fun _ => h)

theorem execReadbackFault_inOrder (h : InOrder s) (hf : LineFollowsStation s) : AnswersInOrder (execReadbackFault s) := by
  refine .next (.ite (fun hs => ?_) fun _ => h)
  have hcollided : s.line.collided = false := by
    rcases hs with hs | ⟨-, hc⟩
    · exact h.not_collided (by simp [hs])
    · exact hc
  have hp : s.participating = true := hf.mpr (by rcases hs with hs | ⟨hs, -⟩ <;> simp [hs])
  exact (FrameOver.of_line (l := { s.line with state := .receiving, passive := true, offer := none, ownFrame := none }) h rfl
    hcollided rfl).failCarried hp

theorem execDuplicateCollision_inOrder (h : InOrder s) (hf : LineFollowsStation s) (read : Collision) :
    AnswersInOrder (execDuplicateCollision read s) := by
  refine .next ?_
  split
  case h_1 hs =>
    obtain ⟨⟨hslots, ⟨hentries, hstop, hcensus, hown, -⟩, howed⟩, hnotes⟩ := h
    exact ⟨⟨hslots, ⟨hentries, hstop, hcensus, hown, fun _ => hs⟩, howed⟩, hnotes⟩
  case h_2 hs =>
    have hp : s.participating = true := hf.mpr (by simp [hs])
    exact .ite (fun _ => .ite (fun _ => h.isolateOf _) fun _ => (FrameOver.backToIdle h).failCarried hp) fun _ => h
  case h_3 hs =>
    have hown := h.ownFrame_none (by simp [hs]) (by simp [hs])
    exact h.withLine hown hown (h.not_collided (by simp [hs])) rfl
  case h_4 => exact h

theorem execCensusAnswerField_inOrder (h : InOrder s) (n : StationNo) (x : CensusHeader) :
    AnswersInOrder (execCensusAnswerField n x s) := by
  refine .next ?_
  split
  case h_1 hr =>
    have hsending : s.line.state = .sending ∧ s.line.collided = false := by
      unfold frameRole at hr
      split at hr
      · simp at hr
      split at hr
      case h_1 hs =>
        split at hr
        · rename_i hown
          exact ⟨hs, hown.2.2⟩
        · simp at hr
      case h_2 => split at hr <;> simp at hr
      case h_3 => split at hr <;> simp at hr
      case h_4 => split at hr <;> simp at hr
      all_goals simp at hr
    obtain ⟨⟨hslots, ⟨hentries, hstop, hcensus, -, -⟩, howed⟩, hnotes⟩ := h
    exact ⟨⟨hslots, ⟨hentries, hstop, hcensus, fun _ => .inr rfl, by simp [hsending.2]⟩, howed⟩, hnotes⟩
  case h_2 hr =>
    have hown := frameRole_ownFrame h (.inl hr)
    have hcollided : s.line.collided = false := Bool.eq_false_of_not_eq_true fun hc => by
      have hs := h.queue.carried.2.2.2.2 hc
      simp [frameRole, hs, hc] at hr
    exact h.withLine hown hown hcollided rfl
  all_goals exact h

theorem execFrameSpoiled_inOrder (h : InOrder s) (hf : LineFollowsStation s) : AnswersInOrder (execFrameSpoiled s) := by
  refine .next ?_
  split
  case h_1 hs => exact (FrameOver.backToIdle h).failCarried (hf.mpr (by simp [hs]))
  case h_2 hs =>
    split
    · exact (FrameOver.backToIdle h).failCarried (hf.mpr (by simp [hs]))
    · rename_i hown
      exact h.backToIdle (by simpa using hown)
  case h_3 hs => exact h.backToIdle (h.ownFrame_none (by simp [hs]) (by simp [hs]))
  case h_4 hs => exact h.backToIdle (h.ownFrame_none (by simp [hs]) (by simp [hs]))
  all_goals exact h

theorem execHoldEnd_inOrder (h : InOrder s) : AnswersInOrder (execHoldEnd s) := by
  refine .next (.ite (fun hs => ?_) fun _ => h)
  have hown := h.ownFrame_none (by simp [hs.1]) (by simp [hs.1])
  exact h.withLine hown hown (h.not_collided (by simp [hs.1])) rfl

theorem InOrder.goStuck (h : InOrder s) (hs : s.line.state = .idle ∨ s.line.state = .holding) : InOrder (goStuck s) := by
  have hsending : s.line.state ≠ .sending := by rcases hs with hs | hs <;> simp [hs]
  have hown := h.ownFrame_none hsending (by rcases hs with hs | hs <;> simp [hs])
  exact h.withLine hown hown (h.not_collided hsending) rfl

theorem execDataStuck_inOrder (h : InOrder s) : AnswersInOrder (execDataStuck s) :=
  .next (.ite h.goStuck fun _ => h)

theorem execHoldStuck_inOrder (h : InOrder s) : AnswersInOrder (execHoldStuck s) := by
  have hremembered : InOrder (s.withLine { s.line with holdStuck := true }) := ⟨{ h.queue with }, h.notes⟩
  refine .next ?_
  split
  case h_1 hs => exact h.goStuck (.inl hs)
  case h_2 hs => exact h.goStuck (.inr hs)
  case h_7 => exact h
  case h_8 => exact h
  all_goals exact hremembered

theorem execStuckExit_inOrder (h : InOrder s) : AnswersInOrder (execStuckExit s) := by
  refine .next (.ite (fun hs => ?_) fun _ => h)
  have hown := h.ownFrame_none (by simp [hs]) (by simp [hs])
  exact h.withLine hown hown (h.not_collided (by simp [hs])) rfl

/-! ### Timers, the probe unit, output supervision and the station monitor -/

theorem execSpacingTimerExpiry_inOrder (h : InOrder s) : AnswersInOrder (execSpacingTimerExpiry s) :=
  .next (.ite (fun _ => .ite (fun _ => (h.withChan _).startHead) fun _ => h.withChan _) fun _ => h)

theorem execProbeWindowEnd_inOrder (h : InOrder s) (n : Nat) : AnswersInOrder (execProbeWindowEnd n s) := by
  unfold execProbeWindowEnd
  split
  · exact .next h
  · dsimp only
    split
    · exact .next ((h.withProbe _).probePassed _)
    · exact .next ((h.withProbe _).probeFailed _ _ _)

theorem InOrder.setTemperature (h : InOrder s) (t : TempState) : InOrder (setTemperature s t) := (h.withMonitor _).raise _

theorem InOrder.setSupply (h : InOrder s) (v : SupplyState) : InOrder (setSupply s v) := (h.withMonitor _).raise _

theorem InOrder.enterShutdown (h : InOrder s) : InOrder (enterShutdown s) := (h.retire .hot).setTemperature _

theorem execThermalWarning_inOrder (h : InOrder s) (die : Int) : AnswersInOrder (execThermalWarning die s) :=
  .next (.ite (fun _ => h.enterShutdown)
    fun _ => .ite (fun _ => h.setTemperature _) fun _ => .ite (fun _ => h.setTemperature _) fun _ => h)

theorem execSagEpisodeOpen_inOrder (h : InOrder s) (vs : Nat) : AnswersInOrder (execSagEpisodeOpen vs s) :=
  .next (.ite (fun _ => .ite (fun _ => (h.setSupply _).sagRaise) fun _ => h.setSupply _) fun _ => h)

/-! ### Every command -/

/-- An accepted frame with a body of its own, and an effect that puts the queue in order. -/
theorem frame_inOrder (h : InOrder s) {n : StationNo} {f : Frame} {effect : Bool → State → State}
    (heffect : ∀ (own : Bool) (u : State) (x : Option Carrier), FrameOver u x → (own = false → x = none) → InOrder (effect own u)) :
    AnswersInOrder (acceptFrame s (frameRole s n f) effect) :=
  .acceptFrame h (frameRole_ownFrame h) heffect

theorem exec_inOrder (h : InOrder s) (hf : LineFollowsStation s) (i : Instr) : AnswersInOrder (exec i s) := by
  cases i with
  | powerOn p => exact .next (inOrder_of_empty rfl rfl rfl)
  | pinReset p => exact .next (inOrder_of_empty rfl rfl rfl)
  | softReset => exact .request h (.accept (h.withPort rfl))
  | transactionEnd edge die vs => exact execTransactionEnd_inOrder h edge die vs
  | unknown code => exact execUnknown_inOrder h code
  | setItem i v => exact execSetItem_inOrder h i v
  | commit => exact execCommit_inOrder h
  | start => exact execStart_inOrder h hf
  | on i v => exact .request h (startRequest_inOrder h false i v)
  | arm i v => exact .request h (startRequest_inOrder h true i v)
  | off i => exact execOff_inOrder h i
  | clearFault i => exact execClearFault_inOrder h i
  | go i => exact execGo_inOrder h i
  | setShed i => exact execSetShed_inOrder h i
  | poolStop => exact execPoolStop_inOrder h
  | stationStop i => exact execStationStop_inOrder h i
  | stageNoteByte i v => exact execStageNoteByte_inOrder h i v
  | sendNote i v => exact execSendNote_inOrder h i v
  | readNoteByte i => exact execReadNoteByte_inOrder h i
  | dropNote => exact execDropNote_inOrder h
  | readItem i v => exact execReadItem_inOrder h i v
  | nextEvent => exact execNextEvent_inOrder h
  | setMask i v => exact execSetMask_inOrder h i v
  | stopInputAssertion => exact execStopInputAssertion_inOrder h
  | idleGap edge => exact execIdleGap_inOrder h edge
  | firstIdleGap => exact execFirstIdleGap_inOrder h
  | arbitrationWon => exact execArbitrationWon_inOrder h
  | readbackFault => exact execReadbackFault_inOrder h hf
  | duplicateCollision read => exact execDuplicateCollision_inOrder h hf read
  | censusAnswerField n x => exact execCensusAnswerField_inOrder h n x
  | frameSpoiled => exact execFrameSpoiled_inOrder h hf
  | claim n d k u g w => exact frame_inOrder h fun _ _ _ ho hx => claimEffect_inOrder ho hx n d k u g w
  | release n d k u full => exact frame_inOrder h fun _ _ _ ho hx => releaseEffect_inOrder ho hx _ n d u _
  | withdraw n d k u => exact frame_inOrder h fun _ _ _ ho hx => releaseEffect_inOrder ho hx _ n d u _
  | goApplied n g => exact frame_inOrder h fun _ _ _ ho hx => goEffect_inOrder ho hx g
  | shedSet n l => exact frame_inOrder h fun _ _ _ ho hx => shedSetEffect_inOrder ho hx l
  | shedRaise n p => exact frame_inOrder h fun _ _ _ ho hx => shedRaiseEffect_inOrder ho hx p
  | stopAll n => exact frame_inOrder h fun _ _ _ ho hx => stopAllEffect_inOrder ho hx
  | stopStation n t => exact frame_inOrder h fun _ _ _ ho hx => stopStationEffect_inOrder ho hx t
  | note n t d => exact frame_inOrder h fun _ _ _ ho hx => noteEffect_inOrder ho hx ⟨n, t, d⟩
  | noteHoldExpiry => exact .next (.ite (fun _ => h) fun _ => h.releaseHold.raise _)
  | holdEnd => exact execHoldEnd_inOrder h
  | join n t => exact frame_inOrder h fun _ _ _ ho hx => joinEffect_inOrder ho hx n t
  | snapshot n t p => exact frame_inOrder h fun _ _ _ ho hx => snapshotEffect_inOrder ho hx t p
  | census n x m => exact .acceptFrame h (censusRole_ownFrame h) fun _ _ _ ho hx => censusEffect_inOrder ho hx x m
  | censusTimerExpiry => exact .next (.ite (fun _ => (h.withMember _).setCensus _) fun _ => h)
  | syncTimerExpiry => exact .next (.ite (fun _ => (h.withMember _).setCensus _) fun _ => h)
  | silenceTimerExpiry => exact .next (.ite (fun _ => h.isolateOf _) fun _ => h)
  | rejoinTimerExpiry => exact execRejoinTimerExpiry_inOrder h hf
  | dataStuck => exact execDataStuck_inOrder h
  | holdStuck => exact execHoldStuck_inOrder h
  | stuckExit => exact execStuckExit_inOrder h
  | inrushTimerExpiry d => exact .next (.ite (fun _ => h.inrushOver d) fun _ => h)
  | spacingTimerExpiry => exact execSpacingTimerExpiry_inOrder h
  | probeWindowEnd n => exact execProbeWindowEnd_inOrder h n
  | overcurrent d x => exact .next (.ite (fun _ => (h.writeRecord d _ _ _ _).faultChannel d) fun _ => h)
  | openLoad d x => exact .next (.ite (fun _ => h.openLoadFound d x) fun _ => h)
  | thermalWarning die => exact execThermalWarning_inOrder h die
  | thermalShutdown die => exact .next (.ite (fun _ => h.enterShutdown) fun _ => h)
  | shutdownExit die => exact .next (.ite (fun _ => h.setTemperature _) fun _ => h)
  | lockoutEntry vs => exact .next (.ite (fun _ => (h.retire _).setSupply _) fun _ => h)
  | lockoutExit vs => exact .next (.ite (fun _ => h.setSupply _) fun _ => h)
  | sagEpisodeOpen vs => exact execSagEpisodeOpen_inOrder h vs
  | sagEpisodeClose vs => exact .next (.ite (fun _ => h.setSupply _) fun _ => h)
  | stopInputRelease => exact .next (h.withStopInput false)
  | stationClockTick => exact .next (h.withMonitor _)
  | openLoadRearm d x => exact .next (.ite (fun _ => h.updChannel d _) fun _ => h)
  | currentMeasurement d x => exact .next (h.updChannel d _)

/-- Settles O42: every command keeps the order, where the line controller follows the station state. -/
theorem transmitQueueKept : Obligations.TransmitQueueKept := by
  intro s t hline hnotes hqueue hstep
  have h : InOrder s := ⟨hqueue, hnotes⟩
  have ht : InOrder t := by
    unfold step at hstep
    split at hstep
    · cases hstep
      exact h
    · rename_i c rest _
      exact exec_inOrder (h.withPending rest) hline c t hstep
  exact ⟨ht.queue, ht.notes⟩

end Sys2Proof.Machine
end

section
/-! The line controller's passages (spec/02_the_share_line.md R20 to R37): the gaps, the hold phase, STUCK, the opportunity, the win, the
answer bits of a census, and what a failed attempt counts. -/

namespace Sys2Proof.Machine

open Sys2Proof.Safety Sys2Proof.Obl

variable {s : State}

/-! ### Passages of the line alone (R20, R26, R28, R36, R37) -/

theorem lineAfter_idle (l : Line) : lineAfter l .idle = idled l := by
  cases h : l.holdStuck <;> simp [lineAfter, idled, h]

theorem backToIdle_eq (s : State) : backToIdle s = { s with line := idled s.line } := by
  rw [backToIdle_frame, lineAfter_idle]

theorem enterHolding_eq (s : State) : enterHolding s = { s with line := held s.line } := by
  rw [enterHolding_frame, lineAfter_holding]

theorem execFirstIdleGap_idle (h : s.line.state = .idle) :
    execFirstIdleGap s = .next { s with line := { s.line with listening := true } } := by
  rw [execFirstIdleGap, if_pos h]
  rfl

theorem execHoldEnd_free (h : s.line.state = .holding) (hn : s.line.heldNotes = []) :
    execHoldEnd s = .next { s with line := { s.line with state := .idle } } := by
  rw [execHoldEnd, if_pos ⟨h, hn⟩]
  rfl

theorem execHoldEnd_held (hn : s.line.heldNotes ≠ []) : execHoldEnd s = .next s := by
  rw [execHoldEnd, if_neg fun h => hn h.2]

theorem execDataStuck_between (h : s.line.state = .idle ∨ s.line.state = .holding) :
    execDataStuck s = .next { s with line := { s.line with state := .stuck, listening := false, holdStuck := false } } := by
  rw [execDataStuck, if_pos h]
  rfl

theorem execDataStuck_inFrame (h : ¬ (s.line.state = .idle ∨ s.line.state = .holding)) : execDataStuck s = .next s := by
  rw [execDataStuck, if_neg h]

theorem execHoldStuck_between (h : s.line.state = .idle ∨ s.line.state = .holding) :
    execHoldStuck s = .next { s with line := { s.line with state := .stuck, listening := false, holdStuck := false } } := by
  rcases h with h | h <;> simp only [execHoldStuck, h] <;> rfl

theorem execStuckExit_stuck (h : s.line.state = .stuck) :
    execStuckExit s = .next { s with line := { s.line with state := .idle, listening := false } } := by
  rw [execStuckExit, if_pos h]
  rfl

theorem lineStatePassages : LineStatePassages := by
  refine fun s => ⟨execFirstIdleGap_idle, execHoldEnd_free, fun _ hn => execHoldEnd_held hn,
    fun h => ⟨execDataStuck_between h, execHoldStuck_between h⟩, fun h => ?_, execStuckExit_stuck⟩
  simp only [List.mem_cons, List.not_mem_nil, or_false] at h
  refine ⟨execDataStuck_inFrame ?_, ?_⟩
  · rcases h with h | h | h | h <;> simp [h]
  · change execHoldStuck s = _
    rcases h with h | h | h | h <;> simp only [execHoldStuck, h] <;> rfl

theorem receiverCountsNoSpoil : ReceiverCountsNoSpoil := by
  intro s h
  have hidle : execFrameSpoiled s = .next (backToIdle s) := by
    rcases h with h | h | ⟨h, hown⟩
    · simp only [execFrameSpoiled, h]
    · simp only [execFrameSpoiled, h]
    · simp [execFrameSpoiled, h, hown, failCarried]
  exact hidle.trans (by rw [backToIdle_eq])

/-- Settles O52: each passage by its own equation, and the spoils that count nothing. -/
theorem linePassagesOutsideOwnFrame : Obligations.LinePassagesOutsideOwnFrame := ⟨lineStatePassages, receiverCountsNoSpoil⟩

/-! ### The opportunity (R21, R43) -/

/-- The oldest entry of the lowest rank is chosen: no entry has a lower rank, and no older one the same. -/
theorem oldestLowest_eq {older newer : List Entry} {e : Entry}
    (hmin : ∀ d ∈ older ++ e :: newer, contentRank e.content ≤ contentRank d.content)
    (holder : ∀ d ∈ older, contentRank e.content < contentRank d.content) : oldestLowest (older ++ e :: newer) = some e := by
  induction older with
  | nil =>
    rw [List.nil_append, oldestLowest]
    cases hb : oldestLowest newer with
    | none => rfl
    | some b =>
      have hle := hmin b (List.mem_cons_of_mem _ (oldestLowest_min hb).1)
      exact if_neg (not_lt.mpr hle)
  | cons a older ih =>
    have hrest := ih (fun d hd => hmin d (List.mem_cons_of_mem _ hd)) fun d hd => holder d (List.mem_cons_of_mem _ hd)
    rw [List.cons_append, oldestLowest, hrest]
    exact if_pos (holder a List.mem_cons_self)

theorem offer_of_isOffer {q : TxQueue} {c : Carrier} {rank : Nat} (hq : SlotsWellKept q) (h : IsOffer q c rank) :
    q.offer = some c ∧ offerRank q c = rank := by
  rcases h with ⟨hstop, rfl, rfl⟩ | ⟨hstop, hcensus, rfl, rfl⟩ |
    ⟨hstop, hcensus, older, e, newer, hsplit, rfl, rfl, hmin, holder⟩
  · exact ⟨by simp [TxQueue.offer, Option.isSome_iff_ne_none, hstop], rfl⟩
  · exact ⟨by simp [TxQueue.offer, Option.isSome_iff_ne_none, hstop, hcensus], rfl⟩
  · have hlowest : oldestLowest q.entries = some e := by
      rw [hsplit] at hmin ⊢
      exact oldestLowest_eq hmin holder
    have hslot := entryOf_of_mem hq.1 (oldestLowest_min hlowest).1
    exact ⟨by simp [TxQueue.offer, hstop, hcensus, hlowest], by simp [offerRank, hslot]⟩

theorem offer_none {q : TxQueue} (hentries : q.entries = []) (hstop : q.stop = none) (hcensus : q.census = none) :
    q.offer = none := by
  simp [TxQueue.offer, hentries, hstop, hcensus, oldestLowest]

theorem quietLine_of_hearing (h : ¬ (s.line.state = .receiving ∧ s.line.passive = true)) : quietLine s = s := if_neg h

theorem execIdleGap_listening (hs : s.line.state = .idle) (hl : s.line.listening = true) (edge : StartEdge) :
    execIdleGap edge s = .next (opportunity s edge) := by
  rw [execIdleGap, quietLine_of_hearing (by simp [hs])]
  exact congrArg _ (if_pos ⟨hs, hl⟩)

/-- An opportunity changes nothing at a controller that is not in IDLE, or not yet listening (R20, R21). -/
theorem execIdleGap_elsewhere (hpassive : ¬ (s.line.state = .receiving ∧ s.line.passive = true))
    (h : ¬ (s.line.state = .idle ∧ s.line.listening = true)) (edge : StartEdge) : execIdleGap edge s = .next s := by
  rw [execIdleGap, quietLine_of_hearing hpassive]
  exact congrArg _ (if_neg h)

/-- A controller that reads on meets an opportunity as the one it is at the frame's end (log 7). -/
theorem execIdleGap_readsOn (hs : s.line.state = .receiving) (hpassive : s.line.passive = true) (edge : StartEdge) :
    execIdleGap edge s = execIdleGap edge { s with line := idled s.line } := by
  have hidled : quietLine { s with line := idled s.line } = { s with line := idled s.line } := quietLine_of_hearing (by simp [idled])
  have hquiet : quietLine s = { s with line := idled s.line } := (if_pos ⟨hs, hpassive⟩).trans (backToIdle_eq s)
  rw [execIdleGap, execIdleGap, hidled, hquiet]

/-- Settles O14: the queue's offer by R43, and the opportunity's equation in each state of the line. -/
theorem opportunityOffersLowest : Obligations.OpportunityOffersLowest := by
  refine fun s => ⟨fun hs hl => ⟨fun c rank hq hoffer => ?_, fun hentries hstop hcensus => ?_, execIdleGap_listening hs hl _⟩,
    fun edge => ⟨fun hs hpassive => ?_, fun hs hl => ?_, fun hs hpassive => execIdleGap_readsOn hs hpassive edge⟩⟩
  · obtain ⟨hoffered, rfl⟩ := offer_of_isOffer hq hoffer
    exact ⟨(execIdleGap_listening hs hl _).trans (by simp only [opportunity, hoffered, beginFrame_frame]),
      (execIdleGap_listening hs hl _).trans (by simp only [opportunity, hoffered, beginFrame_frame])⟩
  · have hnone := offer_none hentries hstop hcensus
    exact ⟨(execIdleGap_listening hs hl _).trans (by simp only [opportunity, hnone]),
      (execIdleGap_listening hs hl _).trans (by simp only [opportunity, hnone]; rfl)⟩
  · exact execIdleGap_elsewhere hpassive (fun h => hs h.1) edge
  · exact execIdleGap_elsewhere (by simp [hs]) (by simp [hl]) edge

/-! ### The win (R23, R45, R47) -/

/-- A win with a body to send: it is frozen, and its carrier is on the line. -/
theorem execArbitrationWon_sends {c : Carrier} {f : Frame} (hs : s.line.state = .arbitrating) (hoffer : s.line.offer = some c)
    (hbody : frozenBody s c = some f) :
    execArbitrationWon s
      = .next { s with queue := setOnLine s.queue c, line := { s.line with state := .sending, ownFrame := some f } } := by
  rw [execArbitrationWon, if_pos hs, winArbitration, hoffer, Option.bind_some, hbody]
  rfl

theorem execArbitrationWon_abandons (hs : s.line.state = .arbitrating) (hoffer : s.line.offer = none) :
    execArbitrationWon s = .next { s with line := { s.line with state := .receiving, passive := true } } := by
  have hline : ({ s.line with state := .receiving, passive := true, offer := none } : Line)
      = { s.line with state := .receiving, passive := true } := by rw [← hoffer]
  rw [execArbitrationWon, if_pos hs, winArbitration, hoffer]
  exact congrArg (fun l => Host.Outcome.next (s.withLine l)) hline

theorem freeze_eq {t : Terms} (ht : s.terms = some t) (k : Content) : freeze s k = bodyOf t s.pool k := by
  cases k <;> simp [freeze, bodyOf, State.termsHeld, ht]

theorem censusHeader_eq {t : Terms} (ht : s.terms = some t) (m : CensusMode) :
    censusHeader s m = ⟨m, t, if m = .timed then digest s.pool else 0⟩ := by
  cases m <;> simp [censusHeader, State.termsHeld, ht]

/-- Settles O15: the body of each carrier, read at the win. -/
theorem winFreezesOffer : Obligations.WinFreezesOffer := by
  refine fun t s hs ht hq => ⟨fun a hoffer ha => ?_, fun a hoffer ha => ?_, fun e he hoffer => ?_, execArbitrationWon_abandons hs⟩
  · have hbody : frozenBody s .stop = some (.stop a.target) := by simp [frozenBody, ha]
    exact (execArbitrationWon_sends hs hoffer hbody).trans (by simp [setOnLine, ha])
  · have hbody : frozenBody s .census = some (.census ⟨a.mode, t, if a.mode = .timed then digest s.pool else 0⟩) := by
      simp [frozenBody, ha, censusHeader_eq ht]
    exact (execArbitrationWon_sends hs hoffer hbody).trans (by simp [setOnLine, ha])
  · have hbody : frozenBody s (.entry e.owner) = some (bodyOf t s.pool e.content) := by
      simp [frozenBody, entryOf_of_mem hq.1 he, freeze_eq ht]
    exact execArbitrationWon_sends hs hoffer hbody

/-! ### Failed attempts (R30, R31, R46) -/

/-- However a failed attempt is met, it is one of what the controller offered, with the line as it is then. -/
theorem exec_failure {i : Fin 3} (h : failsIn s i) :
    exec (failure s i).1 s = .next (failCarried { s with line := (failure s i).2 } s.line.offer) := by
  have hidle : failCarried (backToIdle s) s.line.offer = failCarried { s with line := idled s.line } s.line.offer := by
    rw [backToIdle_eq]
  have hreads : truncateFrame s = failCarried { s with line := readsOn s.line } s.line.offer := rfl
  rcases h with ⟨hs, hcollided, hdrives⟩ | ⟨rfl, hs, hown⟩ | ⟨rfl, hs⟩
  · match i with
    | 0 =>
      change execFrameSpoiled s = _
      simp only [execFrameSpoiled, hs]
      exact congrArg _ hidle
    | 1 =>
      change execDuplicateCollision (.ends false) s = _
      simp only [execDuplicateCollision, hs, hcollided rfl]
      exact congrArg _ hidle
    | 2 =>
      change execReadbackFault s = _
      rw [execReadbackFault, if_pos (.inr ⟨hs, hdrives rfl⟩)]
      exact congrArg _ hreads
  · change execFrameSpoiled s = _
    simp only [execFrameSpoiled, hs, Option.isSome_iff_ne_none, ne_eq, hown, not_false_eq_true, if_true]
    exact congrArg _ hidle
  · change execReadbackFault s = _
    rw [execReadbackFault, if_pos (.inl hs)]
    exact congrArg _ hreads

theorem heldNotes_failure (s : State) (i : Fin 3) : (failure s i).2.heldNotes = s.line.heldNotes := by
  match i with
  | 0 => rfl
  | 1 => rfl
  | 2 => rfl

/-- Isolation as seen from before the line moved. -/
theorem isolate_withLine_isolatedFrom {l : Line} (hp : s.participating = true) (hl : l.heldNotes = s.line.heldNotes) (r : IsoReason) :
    IsolatedFrom r s (isolate { s with line := l } r) := by
  have h := isolate_isolatedFrom (s := { s with line := l }) hp r
  simp only [IsolatedFrom, hl] at h
  exact h

/-- A failed attempt of an entry that owes nothing: the count alone. -/
theorem failedAttempt_entry {e : Entry} (hn : (s.queue.entries.map Entry.owner).Nodup) (he : e ∈ s.queue.entries)
    (hcount : e.attempts < 7) (hraise : e.owner = .shed → s.queue.deferredRaise = false)
    (hfollow : ∀ c : ChanNo, e.owner = .channel c → (s.channel c).followUp = false) :
    failedAttempt s (.entry e.owner) = { s with queue := failedOnce s.queue e.owner } := by
  have hbumped : failedAttempt s (.entry e.owner) = settleOwner { s with queue := failedOnce s.queue e.owner } e.owner := by
    simp only [failedAttempt, entryOf_of_mem hn he]
    exact if_pos hcount
  rw [hbumped]
  generalize ho : e.owner = o at hraise hfollow
  cases o with
  | shed =>
    change settleRaise _ = _
    exact if_neg (by simp [failedOnce, hraise rfl])
  | channel c =>
    change settleSpoil _ c = _
    exact if_neg (by simpa [State.channel] using hfollow c rfl)
  | membership => rfl
  | go => rfl
  | note => rfl

/-- The eighth failed attempt isolates. -/
theorem failedAttempt_eighth {e : Entry} (hn : (s.queue.entries.map Entry.owner).Nodup) (he : e ∈ s.queue.entries)
    (hcount : e.attempts = 7) : failedAttempt s (.entry e.owner) = isolate s .line := by
  simp only [failedAttempt, entryOf_of_mem hn he]
  exact if_neg (by simp [hcount, Config.maxAttempts])

/-- Settles O16: what is carried counts, or isolates, with the line as the failed attempt leaves it. -/
theorem failedAttemptCounts : Obligations.FailedAttemptCounts := by
  intro i s hfails hp hq
  have hisolated := isolate_withLine_isolatedFrom hp (heldNotes_failure s i) .line
  have hexec := exec_failure hfails
  generalize (failure s i).1 = cmd at hexec ⊢
  generalize (failure s i).2 = l at hexec hisolated ⊢
  refine ⟨fun e he hoffer => ?_, fun a hoffer ha => ?_, fun a hoffer ha => ?_⟩ <;>
    rw [hoffer] at hexec
  · refine ⟨fun hcount hraise hfollow => ?_, fun hcount => ⟨_, hexec, ?_⟩⟩
    · exact hexec.trans (congrArg _
        (failedAttempt_entry (s := { s with line := l }) hq.slots.1 he hcount hraise hfollow))
    · rw [failCarried, failedAttempt_eighth (s := { s with line := l }) hq.slots.1 he hcount]
      exact hisolated
  · refine ⟨fun hcount => hexec.trans ?_, fun hcount => ⟨_, hexec, ?_⟩⟩
    · simp only [failCarried, failedAttempt, ha]
      exact congrArg _ (if_pos hcount)
    · simp only [failCarried, failedAttempt, ha]
      rwa [if_neg (by simp [hcount, Config.maxAttempts])]
  · refine ⟨fun hcount => hexec.trans ?_, fun hcount => ⟨_, hexec, ?_⟩⟩
    · simp only [failCarried, failedAttempt, ha]
      exact congrArg _ (if_pos hcount)
    · simp only [failCarried, failedAttempt, ha]
      rwa [if_neg (by simp [hcount, Config.maxAttempts])]

/-! ### Isolation (R32, R101) -/

/-- Settles O18: a twin's frame and the silence timer's expiry isolate, and isolation is one event. -/
theorem isolationClearsStation : Obligations.IsolationClearsStation := by
  refine fun s => ⟨fun hs hcollided hp => ⟨_, ?_, isolate_isolatedFrom hp .duplicate⟩, fun p hj htimer =>
    ⟨_, ?_, isolate_isolatedFrom (participating_of_joined hj) .silence⟩⟩
  · change execDuplicateCollision _ s = _
    simp only [execDuplicateCollision, hs, hcollided]
    rfl
  · change execSilenceTimerExpiry s = _
    rw [execSilenceTimerExpiry, if_pos ⟨by simp [htimer], decide_eq_true hj⟩]

/-! ### The answer bits (R93) -/

theorem frameRole_of_sends {n : StationNo} {f : Frame} (hf : frameInRange f = true) (h : sends s n f) : frameRole s n f = .own := by
  obtain ⟨hs, hcollided, hown, rfl⟩ := h
  simp [frameRole, hf, hs, hcollided, hown]

theorem needsAttention_iff :
    needsAttention s = true ↔ (∃ c : ChanNo, (s.channel c).fault ≠ none) ∨ s.monitor.temperature = .shutdown := by
  have hall : ∀ c : ChanNo, c ∈ allChannels := by decide
  simp [needsAttention, Option.isSome_iff_ne_none, hall]

theorem participating_iff :
    s.participating = true ↔ s.member.station = .joining ∨ s.member.station = .syncing ∨ s.member.station = .joined := by
  unfold State.participating
  cases s.member.station <;> simp [StationState.participates]

/-- Settles O19: the bits of `answerBits`, at the sender and at a receiver. -/
theorem answerBitsDecided : Obligations.AnswerBitsDecided := by
  intro own n h s hf hsends hhears
  refine ⟨answerBits s n h, ?_, rfl, rfl, ?_, ?_, ?_, ?_⟩
  · change execCensusAnswerField n h s = _
    cases own with
    | true =>
      rw [execCensusAnswerField, frameRole_of_sends hf (hsends rfl)]
      rfl
    | false =>
      rw [execCensusAnswerField, frameRole_of_hears hf (hhears rfl)]
      rfl
  · simp [answerBits, State.isJoined]
  · simp [answerBits]
  · simp only [answerBits, Bool.and_eq_true, participating_iff, needsAttention_iff]
  · simp [answerBits, State.isJoined, and_assoc]

end Sys2Proof.Machine
end

section
/-! Notes (spec/02_the_share_line.md R28, R29; spec/04_claims_releases_and_the_wait_list.md R78; spec/09_host_port.md R166): delivered or
held, read and dropped. -/

namespace Sys2Proof.Machine

open Sys2Proof.Safety Sys2Proof.Obl

variable {s : State}

/-! ### Requests answered (R159, R160) -/

theorem transactionSummary_eq (s : State) : s.transactionSummary = summaryTaken s := by
  unfold State.transactionSummary summaryTaken
  cases hr : s.port.reply <;> cases hs : s.port.sampled <;> simp

theorem answered_eq (s t : State) (o : ReqOutcome) (v : BitVec 16) :
    answered s t o v
      = { t with port := { t.port with reply := some ⟨summaryTaken s, o, v⟩, sampled := some (summaryTaken s) } } := by
  rw [answered, transactionSummary_eq]
  rfl

theorem refuse_replied (s : State) (o : ReqOutcome) : refuse s o = .next (replied s o 0) := congrArg _ (answered_eq s s o 0)

theorem acceptValue_replied (s : State) (v : BitVec 16) : acceptValue s s v = .next (replied s .accepted v) :=
  congrArg _ (answered_eq s s .accepted v)

/-! ### The head note read (R166, R181) -/

theorem readNoteField_length {n : Note} {i : Byte} (hi : i.toNat = 0x10) :
    readNoteField n i = some (BitVec.ofNat 16 (256 * n.sender.val + n.data.length)) := if_pos hi

theorem readNoteField_target {n : Note} {i : Byte} (hi : i.toNat = 0x11) :
    readNoteField n i = some (BitVec.ofNat 16 (targetByte n.target).toNat) := by
  rw [readNoteField, if_neg (by omega), if_pos hi]
  cases n.target with
  | none => rfl
  | some t =>
    have ht : (byteOf t.val).toNat = t.val := by simp [byteOf]; omega
    simp [targetByte, ht, word]

theorem readNoteField_data {n : Note} {i : Byte} (hlen : n.data.length ≤ 16) (hi : i.toNat < n.data.length) :
    readNoteField n i = some (BitVec.ofNat 16 (n.data[i.toNat]'hi).toNat) := by
  rw [readNoteField, if_neg (by omega), if_neg (by omega), if_pos (by omega), List.getElem?_eq_getElem hi]
  rfl

theorem readNoteField_outside {n : Note} {i : Byte} (hi : n.data.length ≤ i.toNat) (h10 : i.toNat ≠ 0x10) (h11 : i.toNat ≠ 0x11) :
    readNoteField n i = none := by
  rw [readNoteField, if_neg h10, if_neg h11]
  split
  · rw [List.getElem?_eq_none hi]
    rfl
  · rfl

theorem execReadNoteByte_field {n : Note} {rest : List Note} {i : Byte} {v : BitVec 16} (hc : s.port.awaitCsn = false)
    (hnotes : s.port.notes = n :: rest) (hv : readNoteField n i = some v) :
    execReadNoteByte i s = .next (replied s .accepted v) := by
  rw [execReadNoteByte, request_counted hc, hnotes]
  simp only [hv]
  exact acceptValue_replied s v

theorem readNoteByteReadsHead : ReadNoteByteReadsHead := by
  refine fun i s hc => ⟨fun hnotes => ?_, fun n rest hnotes hpos hlen =>
    ⟨fun hi => execReadNoteByte_field hc hnotes (readNoteField_data hlen hi),
      fun hi => execReadNoteByte_field hc hnotes (readNoteField_length hi),
      fun hi => execReadNoteByte_field hc hnotes (readNoteField_target hi), fun hi h10 h11 => ?_⟩⟩
  · change execReadNoteByte i s = _
    rw [execReadNoteByte, request_counted hc, hnotes]
    exact refuse_replied s _
  · change execReadNoteByte i s = _
    rw [execReadNoteByte, request_counted hc, hnotes]
    simp only [readNoteField_outside hi h10 h11]
    exact refuse_replied s _

/-! ### Notes dropped (R29, R166, R181) -/

theorem execDropNote_taken (hc : s.port.awaitCsn = false) (hnotes : s.port.notes ≠ []) :
    execDropNote s = .next (answered s (dropHead s) .accepted 0) := by
  rw [execDropNote, request_counted hc, if_neg hnotes]
  rfl

theorem dropHead_free (hheld : s.line.heldNotes = []) :
    dropHead s = { s with port := { s.port with notes := s.port.notes.tail } } := by
  simp only [dropHead, hheld]
  rfl

/-- The oldest held note takes the place that is free (R166). -/
theorem dropHead_held {m : Note} {more : List Note} (hheld : s.line.heldNotes = m :: more) :
    dropHead s = { s with
      line := { s.line with heldNotes := more }
      port := { s.port with notes := s.port.notes.tail ++ [m], flags := pend s.port.flags [6] } } := by
  have hrest : releaseHold s = { s with line := { s.line with heldNotes := more } } := by
    rw [releaseHold, hheld]
    rfl
  simp only [dropHead, hheld]
  rw [show releaseHold (s.withPort { s.port with notes := s.port.notes.tail })
    = (releaseHold s).withPort { s.port with notes := s.port.notes.tail } from rfl, hrest]
  rfl

theorem noteLeavesByDropOrExpiry : NoteLeavesByDropOrExpiry := by
  refine fun s => ⟨fun hc hnotes => ?_, fun n rest hc hnotes => ⟨fun hheld => ?_, fun m more hheld => ?_⟩, fun m more hheld => ?_⟩
  · change execDropNote s = _
    rw [execDropNote, request_counted hc, if_pos hnotes]
    exact refuse_replied s _
  · refine (execDropNote_taken hc (by simp [hnotes])).trans (congrArg _ ?_)
    rw [answered_eq, dropHead_free hheld, hnotes]
    rfl
  · refine (execDropNote_taken hc (by simp [hnotes])).trans (congrArg _ ?_)
    rw [answered_eq, dropHead_held hheld, hnotes]
    rfl
  · change execNoteHoldExpiry s = _
    rw [execNoteHoldExpiry, if_neg (by simp [hheld]), releaseHold, hheld]
    rfl

/-- Settles O51: the fields of the head note, and the two ways a note leaves. -/
theorem notesReadAndDropped : Obligations.NotesReadAndDropped := ⟨readNoteByteReadsHead, noteLeavesByDropOrExpiry⟩

/-! ### The report of an accepted frame, written out (R46) -/

/-- An own frame that an entry carried: its entry alone is removed. -/
theorem removeAccepted_entry (hq : QueueKept s) {o : Owner} (ho : ∃ e ∈ s.queue.entries, e.owner = o ∧ e.onLine = true) :
    removeAccepted s.queue = emptied s.queue o := by
  obtain ⟨e, he, rfl, hon⟩ := ho
  obtain ⟨hentries, hstop, hcensus, -, -⟩ := hq.carried
  have hoffer := (hentries e he hon).2
  have hentry : s.queue.entries.filter (fun d => !d.onLine) = s.queue.entries.filter fun d => decide (d.owner ≠ e.owner) := by
    refine List.filter_congr fun d hd => ?_
    by_cases hdo : d.owner = e.owner
    · rw [entry_unique hq.slots.1 hd he hdo]
      simp [hon]
    · have hoff : d.onLine = false := Bool.eq_false_of_not_eq_true fun hdl => hdo (by
        have hd := (hentries d hd hdl).2
        rw [hoffer] at hd
        simpa using hd.symm)
      simp [hoff, hdo]
  have hnostop : s.queue.stop.any (fun a => a.onLine) = false := by
    rw [Option.any_eq_false]
    refine fun a ha => Bool.eq_false_of_not_eq_true fun hal => ?_
    have hs := (hstop a ha hal).2
    rw [hoffer] at hs
    simp at hs
  have hnocensus : s.queue.census.any (fun a => a.onLine) = false := by
    rw [Option.any_eq_false]
    refine fun a ha => Bool.eq_false_of_not_eq_true fun hal => ?_
    have hs := (hcensus a ha hal).2
    rw [hoffer] at hs
    simp at hs
  simp only [removeAccepted, emptied, hentry, hnostop, hnocensus]
  simp

/-- The report of a frame that an entry other than a SHED carried (R46): a raise is deferred behind a SHED alone (R53). -/
theorem reportAccepted_after {u : State} (hq : QueueKept s) (hu : u.queue = s.queue) {own : Bool} {o : Owner} (hshed : o ≠ .shed)
    (ho : own = true → ∃ e ∈ s.queue.entries, e.owner = o ∧ e.onLine = true) :
    reportAccepted own u = { u with queue := after own s o } := by
  cases own with
  | false => simp [reportAccepted, after, ← hu]
  | true =>
    obtain ⟨e, he, heo, hon⟩ := ho rfl
    have hdeferred : s.queue.deferredRaise = false := Bool.eq_false_of_not_eq_true fun hd => by
      obtain ⟨d, hd, hdo, hdl⟩ := (frozen_iff hq.slots.1).mp (hq.owed.2 hd)
      have hoffer := (hq.carried.1 e he hon).2.symm.trans (hq.carried.1 d hd hdl).2
      exact hshed (by simpa [heo, hdo] using hoffer)
    rw [reportAccepted, if_pos rfl, hu, removeAccepted_entry hq (ho rfl), settleRaise]
    exact if_neg (by simp [emptied, hdeferred])

/-- A frame that is taken in: the line is HOLDING, or STUCK, before the effect (R27, R36). -/
theorem acceptFrame_taken {own : Bool} {n : StationNo} {f : Frame} {effect : Bool → State → State} (hf : frameInRange f = true)
    (h : if own then sends s n f else hears s n f) :
    acceptFrame s (frameRole s n f) effect = .next (effect own { s with line := held s.line }) := by
  rw [← enterHolding_eq]
  cases own with
  | true => rw [frameRole_of_sends hf (by simpa using h)]; rfl
  | false => rw [frameRole_of_hears hf (by simpa using h)]; rfl

/-! ### NOTE (R78, R28, R29) -/

/-- A NOTE at a JOINED station, once its report is made. -/
theorem execNote_applied {own : Bool} {n : StationNo} {target : Option StationNo} {d : List Byte}
    (h : applies own s n (.note target d) .note) :
    execNote n target d s = .next (
      let u := { s with line := held s.line, queue := after own s .note }
      if delivers s ⟨n, target, d⟩ then
        if s.port.notes.length < 4 then placeNote u ⟨n, target, d⟩
        else u.withLine { held s.line with heldNotes := s.line.heldNotes ++ [⟨n, target, d⟩] }
      else u) := by
  obtain ⟨hj, hf, hq, htaken⟩ := h
  have hpart : if own then sends s n (.note target d) else hears s n (.note target d) := by
    cases own with
    | true => exact htaken.1
    | false => exact htaken
  have hreport := reportAccepted_after (u := { s with line := held s.line }) hq rfl (own := own) (o := .note) (by simp) fun hown => by
    subst hown
    exact htaken.2
  rw [execNote, acceptFrame_taken hf hpart, noteEffect, hreport]
  exact congrArg _ (if_pos (decide_eq_true hj))

theorem delivers_iff {n : Note} :
    delivers s n = true ↔ n.sender ≠ s.number ∧ (n.target = none ∨ n.target = some s.number) := by
  simp [delivers]

/-- Settles O30: delivered with room, held without, or not this station's. -/
theorem noteDeliveredOrHeld : Obligations.NoteDeliveredOrHeld := by
  intro own n target d s h
  have hexec := execNote_applied h
  refine ⟨fun hn htarget => ?_, fun hnot => ?_⟩
  · rw [if_pos (delivers_iff.mpr ⟨hn, htarget⟩)] at hexec
    refine ⟨fun hroom => hexec.trans ?_, fun hfull => hexec.trans ?_⟩
    · rw [if_pos hroom]
      rfl
    · rw [if_neg (not_lt.mpr hfull)]
      rfl
  · rw [if_neg fun hd => ?_] at hexec
    · exact hexec
    · obtain ⟨hn, htarget⟩ := delivers_iff.mp hd
      rcases hnot with hnot | ⟨hall, hown⟩
      · exact hn hnot
      · exact htarget.elim hall hown

end Sys2Proof.Machine
end

section
/-! The census answer field on SHD and the outputs that follow State (spec/02_the_share_line.md R18, R34, R35; spec/06_output_channels.md
R110; spec/07 R146; spec/09_host_port.md R159). -/

namespace Sys2Proof.Machine

open Sys2Proof.Safety Sys2Proof.Obl

/-! ### Station maps as bits (R34) -/

theorem mapBits_getD (x : BitVec 32) (i : Nat) : (mapBits x).getD i true = !x.getLsbD i := by
  rw [List.getD_eq_getElem?_getD, mapBits, List.getElem?_map]
  by_cases hi : i < 32
  · simp [hi]
  · simp [List.getElem?_eq_none (l := List.finRange 32) (by simpa using hi), BitVec.getLsbD_of_ge x i (by omega)]

/-- A map's 32 bits, and what follows them. -/
theorem mapBits_append_getD (x : BitVec 32) (l : List Bool) (i : Nat) :
    (mapBits x ++ l).getD i true = if i < 32 then !x.getLsbD i else l.getD (i - 32) true := by
  split
  · rw [List.getD_append _ _ _ _ (by rwa [mapBits_length]), mapBits_getD]
  · rw [List.getD_append_right _ _ _ _ (by rw [mapBits_length]; omega), mapBits_length]

theorem mapsBits_length (m : Maps) : (mapsBits m).length = 128 := by simp [mapsBits, mapBits_length]

/-- The field's bit by its map: joined, syncing, attention, dissent, 32 bits each. -/
theorem mapsBits_getD (m : Maps) (i : Nat) :
    (mapsBits m).getD i true
      = if i < 32 then !m.joined.getLsbD i
        else if i < 64 then !m.syncing.getLsbD (i - 32)
        else if i < 96 then !m.attention.getLsbD (i - 64) else !m.dissent.getLsbD (i - 96) := by
  simp only [mapsBits, List.append_assoc, mapBits_append_getD, mapBits_getD, Nat.sub_sub]
  have h64 : i - 32 < 32 ↔ i < 64 := by omega
  have h96 : i - 64 < 32 ↔ i < 96 := by omega
  simp only [h64, h96]

theorem mapsBits_getD_joined (m : Maps) (i : Fin 32) : (mapsBits m).getD i true = !m.joined.getLsbD i := by
  rw [mapsBits_getD, if_pos i.isLt]

theorem mapsBits_getD_syncing (m : Maps) (i : Fin 32) : (mapsBits m).getD (32 + i) true = !m.syncing.getLsbD i := by
  rw [mapsBits_getD, if_neg (by omega), if_pos (by omega), Nat.add_sub_cancel_left]

theorem mapsBits_getD_attention (m : Maps) (i : Fin 32) : (mapsBits m).getD (64 + i) true = !m.attention.getLsbD i := by
  rw [mapsBits_getD, if_neg (by omega), if_neg (by omega), if_pos (by omega), Nat.add_sub_cancel_left]

theorem mapsBits_getD_dissent (m : Maps) (i : Fin 32) : (mapsBits m).getD (96 + i) true = !m.dissent.getLsbD i := by
  rw [mapsBits_getD, if_neg (by omega), if_neg (by omega), if_neg (by omega), Nat.add_sub_cancel_left]

/-! ### Maps read back (R34, R35) -/

/-- Of 32 bits in the field, a map is set where they are dominant. -/
theorem readMap_eq {bits : List Bool} {k : Nat} {x : BitVec 32} (h : ∀ i : Fin 32, bits.getD (k + i) true = !x.getLsbD i) :
    readMap (bits.drop k) = x := by
  refine BitVec.eq_of_getLsbD_eq fun i hi => ?_
  have hbit := h ⟨i, hi⟩
  rw [List.getD_eq_getElem?_getD] at hbit
  rw [readMap, BitVec.getLsbD_ofFnLE, dif_pos hi, List.getD_eq_getElem?_getD, List.getElem?_drop, hbit, Bool.not_not]

theorem readMaps_eq {bits : List Bool} {m : Maps} (hjoined : ∀ i : Fin 32, bits.getD i true = !m.joined.getLsbD i)
    (hsyncing : ∀ i : Fin 32, bits.getD (32 + i) true = !m.syncing.getLsbD i)
    (hattention : ∀ i : Fin 32, bits.getD (64 + i) true = !m.attention.getLsbD i)
    (hdissent : ∀ i : Fin 32, bits.getD (96 + i) true = !m.dissent.getLsbD i) : readMaps bits = m := by
  have hfirst := readMap_eq (k := 0) fun i => by rw [Nat.zero_add]; exact hjoined i
  rw [List.drop_zero] at hfirst
  rw [readMaps, hfirst, readMap_eq hsyncing, readMap_eq hattention, readMap_eq hdissent]

theorem readMaps_mapsBits (m : Maps) : readMaps (mapsBits m) = m :=
  readMaps_eq (mapsBits_getD_joined m) (mapsBits_getD_syncing m) (mapsBits_getD_attention m) (mapsBits_getD_dissent m)

/-- Several maps' union, one after the other. -/
theorem getLsbD_foldl_or (field : Maps → BitVec 32) (answers : List Maps) (x : BitVec 32) (i : Nat) :
    (answers.foldl (fun x m => x ||| field m) x).getLsbD i = (x.getLsbD i || answers.any fun m => (field m).getLsbD i) := by
  induction answers generalizing x with
  | nil => simp
  | cons m answers ih => simp [ih, Bool.or_assoc]

/-- A bit of the wired answers is recessive exactly while every answer leaves its position clear. -/
theorem wireBits_getD {answers : List Maps} {k : Nat} (hk : k < 128) {i : Nat} {field : Maps → BitVec 32}
    (h : ∀ m, (mapsBits m).getD k true = !(field m).getLsbD i) :
    (wireBits 128 (answers.map mapsBits)).getD k true = !(answers.foldl (fun x m => x ||| field m) 0).getLsbD i := by
  rw [getLsbD_foldl_or, List.getD_eq_getElem?_getD, wireBits, List.getElem?_map, List.getElem?_range hk]
  simp only [Option.map_some, Option.getD_some, List.map_map, wireLevel, List.all_map, Function.comp_def, h, id]
  simp [List.all_eq_not_any_not]

theorem readMaps_wireBits (answers : List Maps) :
    readMaps (wireBits 128 (answers.map mapsBits))
      = ⟨answers.foldl (fun x m => x ||| m.joined) 0, answers.foldl (fun x m => x ||| m.syncing) 0,
        answers.foldl (fun x m => x ||| m.attention) 0, answers.foldl (fun x m => x ||| m.dissent) 0⟩ :=
  readMaps_eq (fun i => wireBits_getD (by omega) fun m => mapsBits_getD_joined m i)
    (fun i => wireBits_getD (by omega) fun m => mapsBits_getD_syncing m i)
    (fun i => wireBits_getD (by omega) fun m => mapsBits_getD_attention m i)
    fun i => wireBits_getD (by omega) fun m => mapsBits_getD_dissent m i

/-! ### What an answering station writes (R34, R35) -/

theorem ownPosition_getLsbD (n : StationNo) (set : Bool) (i : Nat) :
    (ownPosition n set).getLsbD i = true ↔ i = n.val ∧ set = true := by
  have hn : n.val < 32 := n.isLt
  cases set <;> simp [ownPosition, BitVec.getLsbD_twoPow, hn, eq_comm]

/-- An answer's bits on SHD: dominant at the station's own positions, where it sets them. -/
theorem answerBits_dominant (a : Answer) (n : StationNo) (i : Nat) :
    (mapsBits (a.maps n)).getD i true = false ↔
      (i = n.val ∧ a.joined = true) ∨ (i = 32 + n.val ∧ a.syncing = true) ∨ (i = 64 + n.val ∧ a.attention = true)
        ∨ (i = 96 + n.val ∧ a.dissent = true) := by
  have hn : n.val < 32 := n.isLt
  rw [mapsBits_getD]
  simp only [Answer.maps]
  split
  · rw [Bool.not_eq_false', ownPosition_getLsbD]
    grind
  split
  · rw [Bool.not_eq_false', ownPosition_getLsbD]
    grind
  split
  · rw [Bool.not_eq_false', ownPosition_getLsbD]
    grind
  · rw [Bool.not_eq_false', ownPosition_getLsbD]
    grind

/-- Spoil slot two: the station objects where a position that it set reads clear. -/
theorem objects_iff (a : Answer) (n : StationNo) (m : Maps) :
    objects a n m = true ↔
      (a.joined = true ∧ m.joined.getLsbD n.val = false) ∨ (a.syncing = true ∧ m.syncing.getLsbD n.val = false)
        ∨ (a.attention = true ∧ m.attention.getLsbD n.val = false) ∨ (a.dissent = true ∧ m.dissent.getLsbD n.val = false) := by
  simp [objects, mapBit, or_assoc]

/-! ### The outputs -/

variable {s : State}

theorem driven_iff (c : ChanNo) :
    s.driven c = true ↔
      s.member.station = .joined ∧ s.chan.latch = false
        ∧ (((s.channel c).state = .inrush ∧ (s.cfg c).inrush ≤ (s.channel c).counted)
          ∨ ((s.channel c).state = .run ∧ (s.cfg c).hold ≤ (s.channel c).counted)) := by
  unfold State.driven State.isJoined
  cases (s.channel c).state <;> simp [and_assoc]

theorem mem_allChannels (c : ChanNo) : c ∈ allChannels := by
  revert c
  decide

theorem faultOutput_iff :
    s.faultOutput = true ↔
      (∃ c : ChanNo, (s.channel c).fault ≠ none ∧ (s.cfg c).faultToPin = true) ∨ s.monitor.temperature = .shutdown := by
  simp [State.faultOutput, mem_allChannels, Option.isSome_iff_ne_none]

/-- A bit of a byte by its place value. -/
theorem getLsbD_byte {x k : Nat} {b : Bool} (hk : k < 8) (h : x / 2 ^ k % 2 = b.toNat) : (BitVec.ofNat 8 x).getLsbD k = b := by
  rw [BitVec.getLsbD_ofNat, Nat.testBit_eq_decide_div_mod_eq, h]
  cases b <;> simp [hk]

/-- The fields of a byte laid out as the summary is: two bits, a code in three, three bits (R159). -/
theorem summaryFields (attn fault notes shutdown lockout : Bool) (code : Nat) (hcode : code < 8) :
    let b : Byte := BitVec.ofNat 8
      (128 * attn.toNat + 64 * fault.toNat + 8 * code + 4 * notes.toNat + 2 * shutdown.toNat + lockout.toNat)
    b.getLsbD 7 = attn ∧ b.getLsbD 6 = fault ∧ (b.toNat / 8) % 8 = code ∧ b.getLsbD 2 = notes ∧ b.getLsbD 1 = shutdown
      ∧ b.getLsbD 0 = lockout := by
  have hattn := attn.toNat_le
  have hfault := fault.toNat_le
  have hnotes := notes.toNat_le
  have hshutdown := shutdown.toNat_le
  have hlockout := lockout.toNat_le
  refine ⟨getLsbD_byte (by decide) ?_, getLsbD_byte (by decide) ?_, ?_, getLsbD_byte (by decide) ?_,
    getLsbD_byte (by decide) ?_, getLsbD_byte (by decide) ?_⟩
  case refine_3 =>
    rw [BitVec.toNat_ofNat]
    omega
  all_goals omega

theorem stationCode_lt (x : StationState) : x.code < 8 := by cases x <;> decide

theorem summary_fields (s : State) :
    s.summary.getLsbD 7 = s.attn ∧ s.summary.getLsbD 6 = s.faultOutput ∧ (s.summary.toNat / 8) % 8 = s.member.station.code
      ∧ s.summary.getLsbD 2 = !s.port.notes.isEmpty ∧ s.summary.getLsbD 1 = decide (s.monitor.temperature = .shutdown)
      ∧ s.summary.getLsbD 0 = decide (s.monitor.supply = .lockout) :=
  summaryFields _ _ _ _ _ _ (stationCode_lt _)

theorem holdOut_iff : s.holdOut = false ↔ s.line.state = .holding ∧ s.line.heldNotes ≠ [] := by
  simp [State.holdOut, State.drivesHold]

theorem dataLevel_iff (others : List Bool) (w : BitTime) :
    s.dataLevel others w = true ↔ s.dataOut w = true ∧ ∀ o ∈ others, o = true := by
  simp [State.dataLevel, wireLevel_true]

theorem holdLevel_iff (others : List Bool) : s.holdLevel others = true ↔ s.holdOut = true ∧ ∀ o ∈ others, o = true := by
  simp [State.holdLevel, wireLevel_true]

/-! ### SHD by the state of the line (R19, R22, R26, R32, R34, R35) -/

theorem fieldOf_eq (rank : Nat) (n : StationNo) : fieldOf (rank, n) = arbitrationBits rank n := rfl

/-- Off a frame the controller drives SHD in no bit time. -/
theorem dataOut_offFrame (h : s.line.state ∈ [LineState.offLine, .idle, .holding, .stuck]) (w : BitTime) : s.dataOut w = true := by
  simp only [List.mem_cons, List.not_mem_nil, or_false] at h
  rcases h with h | h | h | h <;> simp only [State.dataOut, h]

theorem dataOut_arbitrating (h : s.line.state = .arbitrating) (i : Nat) :
    s.dataOut (.field i) = (fieldOf (s.line.sentRank, s.number)).getD i true := by
  simp only [State.dataOut, h, fieldOf_eq]

/-- The arbitration field is the start bit and nine bits, and nothing else is driven in it. -/
theorem dataOut_arbitrating_else (h : s.line.state = .arbitrating) {w : BitTime} (hstart : w ≠ .startBit)
    (hfield : ∀ i : Nat, i < 9 → w ≠ .field i) : s.dataOut w = true := by
  cases w with
  | startBit => exact absurd rfl hstart
  | field i =>
    have hi : 9 ≤ i := not_lt.mp fun hi => hfield i hi rfl
    rw [dataOut_arbitrating h, fieldOf_eq]
    exact List.getD_eq_default _ _ (by rwa [arbitrationBits_length])
  | body i => simp only [State.dataOut, h]
  | slotOne bits => simp only [State.dataOut, h]
  | answerBit i => simp only [State.dataOut, h]
  | slotTwo bits => simp only [State.dataOut, h]

theorem dataOut_sending {f : Frame} (h : s.line.state = .sending) (hc : s.line.collided = false) (hf : s.line.ownFrame = some f)
    (i : Nat) : s.dataOut (.body i) = (frameBits s.number f).getD i true := by
  simp only [State.dataOut, h, hf, hc, Bool.false_or]

theorem dataOut_sending_else (h : s.line.state = .sending) {w : BitTime} (hw : s.line.collided = true ∨ ∀ i : Nat, w ≠ .body i) :
    s.dataOut w = true := by
  rcases hw with hc | hw
  · exact dataOut_of_collided h hc w
  · cases w with
    | body i => exact absurd rfl (hw i)
    | startBit => simp only [State.dataOut, h]
    | field i => simp only [State.dataOut, h]
    | slotOne bits => simp only [State.dataOut, h]
    | answerBit i => simp only [State.dataOut, h]
    | slotTwo bits => simp only [State.dataOut, h]

theorem dataOut_receiving (h : s.line.state = .receiving) (hp : s.line.passive = false) (bits : List Bool) :
    s.dataOut (.slotOne bits) = false ↔ receiveBits bits = none := by
  simp [State.dataOut, h, hp]

theorem dataOut_receiving_else (h : s.line.state = .receiving) {w : BitTime}
    (hw : s.line.passive = true ∨ ∀ bits : List Bool, w ≠ .slotOne bits) : s.dataOut w = true := by
  cases w with
  | slotOne bits =>
    have hp : s.line.passive = true := hw.resolve_right fun h => h bits rfl
    simp [State.dataOut, h, hp]
  | startBit => simp only [State.dataOut, h]
  | field i => simp only [State.dataOut, h]
  | body i => simp only [State.dataOut, h]
  | answerBit i => simp only [State.dataOut, h]
  | slotTwo bits => simp only [State.dataOut, h]

theorem dataOut_answering_else (h : s.line.state = .answering) {w : BitTime} (hanswer : ∀ i : Nat, w ≠ .answerBit i)
    (hslot : ∀ bits : List Bool, w ≠ .slotTwo bits) : s.dataOut w = true := by
  cases w with
  | answerBit i => exact absurd rfl (hanswer i)
  | slotTwo bits => exact absurd rfl (hslot bits)
  | startBit => simp only [State.dataOut, h]
  | field i => simp only [State.dataOut, h]
  | body i => simp only [State.dataOut, h]
  | slotOne bits => simp only [State.dataOut, h]

theorem dataOut_answerBit {a : Answer} (h : s.line.state = .answering) (ha : s.line.answer = some a) (i : Nat) :
    s.dataOut (.answerBit i) = (mapsBits (a.maps s.number)).getD i true := by
  simp only [State.dataOut, h, ha]

theorem dataOut_slotTwo {a : Answer} (h : s.line.state = .answering) (ha : s.line.answer = some a) (m : Maps) :
    s.dataOut (.slotTwo (mapsBits m)) = !objects a s.number m := by
  simp only [State.dataOut, h, ha, readMaps_mapsBits]

/-- Settles O38: the outputs, the summary's fields, and SHD and SHH in each state of the line. -/
theorem outputsFollowState : Obligations.OutputsFollowState := by
  intro s
  obtain ⟨hattn, hfault, hcode, hnotes, hshutdown, hlockout⟩ := summary_fields s
  refine ⟨driven_iff, faultOutput_iff, hattn, hfault, hcode, by rw [hnotes]; simp, by rw [hshutdown]; simp,
    by rw [hlockout]; simp,
    holdOut_iff, fun others w => ⟨dataLevel_iff others w, holdLevel_iff others⟩, fun w h => dataOut_offFrame h w,
    fun h => ⟨by simp only [State.dataOut, h], fun i => dataOut_arbitrating h i⟩, fun h w => dataOut_arbitrating_else h,
    fun f i h hc hf => dataOut_sending h hc hf i, fun h w => dataOut_sending_else h, fun bits h hp => dataOut_receiving h hp bits,
    fun h w => dataOut_receiving_else h, fun h w => dataOut_answering_else h, fun a m h ha => ⟨fun i => ?_, ?_⟩⟩
  · rw [dataOut_answerBit h ha, answerBits_dominant]
  · rw [dataOut_slotTwo h ha, Bool.not_eq_false', objects_iff]

end Sys2Proof.Machine
end

section
/-! Bits that are sent are received (spec/01_pool_state.md R13; spec/02_the_share_line.md R22, R24, R25, R39): numbers, bytes, bodies and
whole frames read back from the bits that spell them. -/

namespace Sys2Proof.Machine

/-! ### Numbers and bytes as bits -/

theorem bitsNat_foldl (bs : List Bool) (a : Nat) :
    bs.foldl (fun n b => 2 * n + b.toNat) a = a * 2 ^ bs.length + bitsNat bs := by
  induction bs generalizing a with
  | nil => simp [bitsNat]
  | cons b bs ih =>
    rw [bitsNat, List.foldl_cons, List.foldl_cons, ih, ih, List.length_cons, pow_succ]
    ring

theorem bitsNat_cons (b : Bool) (bs : List Bool) : bitsNat (b :: bs) = b.toNat * 2 ^ bs.length + bitsNat bs := by
  rw [bitsNat, List.foldl_cons, bitsNat_foldl, Nat.mul_zero, Nat.zero_add]

theorem bitsNat_append (as bs : List Bool) : bitsNat (as ++ bs) = bitsNat as * 2 ^ bs.length + bitsNat bs := by
  rw [bitsNat, List.foldl_append, bitsNat_foldl]
  rfl

theorem bitsNat_lt (bs : List Bool) : bitsNat bs < 2 ^ bs.length := by
  induction bs with
  | nil => simp [bitsNat]
  | cons b bs ih =>
    rw [bitsNat_cons, List.length_cons, pow_succ]
    cases b <;> simp <;> omega

/-- A number's lowest bits spell it. -/
theorem bitsNat_natBits (n x : Nat) : bitsNat (natBits n x) = x % 2 ^ n := by
  induction n with
  | zero => simp [natBits, bitsNat, Nat.mod_one]
  | succ n ih =>
    rw [natBits, bitsNat_cons, natBits_length, ih, Nat.toNat_testBit, Nat.mod_pow_succ]
    ring

theorem byteBits_eq (b : Byte) : byteBits b = natBits 8 b.toNat := rfl

theorem bytesBits_length (bs : List Byte) : (bytesBits bs).length = 8 * bs.length := by
  induction bs with
  | nil => rfl
  | cons b bs ih =>
    rw [bytesBits, List.flatMap_cons, List.length_append, byteBits_eq, natBits_length]
    rw [bytesBits] at ih
    rw [ih, List.length_cons]
    ring

theorem byteOf_byteBits (b : Byte) : byteOf (bitsNat (byteBits b)) = b := by
  rw [byteBits_eq, bitsNat_natBits, byteOf]
  apply BitVec.eq_of_toNat_eq
  simpa using b.isLt

/-- Whole bytes are read back, whatever follows them. -/
theorem bitsBytes_bytesBits (bs : List Byte) (rest : List Bool) : bitsBytes (bytesBits bs ++ rest) = bs ++ bitsBytes rest := by
  induction bs with
  | nil => rfl
  | cons b bs ih =>
    rw [bytesBits, List.flatMap_cons, List.append_assoc]
    change byteOf (bitsNat (byteBits b)) :: bitsBytes (bytesBits bs ++ rest) = _
    rw [byteOf_byteBits, ih]
    rfl

theorem toNat_byteOf {n : Nat} (h : n < 256) : (byteOf n).toNat = n := by
  rw [byteOf, BitVec.toNat_ofNat]
  omega

theorem readFin_byteOf {n : Nat} (hn : n ≤ 256) (x : Fin n) : readFin n (byteOf x.val) = some x := by
  have hx : (byteOf x.val).toNat = x.val := toNat_byteOf (by omega)
  simp [readFin, hx]

theorem readBool_byteOf (b : Bool) : readBool (byteOf b.toNat) = some b := by
  cases b <;> decide

theorem readWord_wordBytes {n : Nat} (h : n < 65536) : readWord (byteOf (n / 256)) (byteOf n) = n := by
  simp only [readWord, byteOf, BitVec.toNat_ofNat]
  omega

theorem readTarget_targetByte (t : Option StationNo) : readTarget (targetByte t) = some t := by
  cases t with
  | none => rfl
  | some n =>
    have hn : (byteOf n.val).toNat = n.val := toNat_byteOf (by omega)
    have hne : byteOf n.val ≠ 0xFF#8 := fun h => by
      have := congrArg BitVec.toNat h
      rw [hn, show (0xFF#8).toNat = 255 from rfl] at this
      omega
    simp [readTarget, targetByte, hn, hne]

/-! ### Terms, rows and entries (R13) -/

theorem termsInRange_iff {t : Terms} : termsInRange t = true ↔ (1 ≤ t.limit ∧ t.limit ≤ 4095) ∧ 5 ≤ t.code ∧ t.code ≤ 255 := by
  simp [termsInRange, and_assoc]

theorem readTerms_termsBytes {t : Terms} (h : termsInRange t = true) :
    readTerms (byteOf (t.limit / 256)) (byteOf t.limit) (byteOf t.code) = t := by
  obtain ⟨⟨-, hlimit⟩, -, hcode⟩ := termsInRange_iff.mp h
  rw [readTerms, readWord_wordBytes (by omega), toNat_byteOf (by omega)]

theorem totals_eq (v : Vector Nat 4) : v = #v[v[0], v[1], v[2], v[3]] := by
  ext i hi
  match i, hi with
  | 0, _ => rfl
  | 1, _ => rfl
  | 2, _ => rfl
  | 3, _ => rfl

theorem rowInRange_le {r : Row} (h : rowInRange r = true) : r.misses ≤ 3 ∧ ∀ n ∈ r.totals.toList, n ≤ 4095 := by
  simp only [rowInRange, Bool.and_eq_true, decide_eq_true_eq, List.all_eq_true] at h
  exact h.1

theorem readRow_rowBytes {r : Row} (h : rowInRange r = true) : readRow (rowBytes r) = some r := by
  obtain ⟨hmisses, htotals⟩ := rowInRange_le h
  obtain ⟨present, misses, totals⟩ := r
  obtain ⟨a, b, c, d, rfl⟩ : ∃ a b c d, totals = #v[a, b, c, d] := ⟨_, _, _, _, totals_eq totals⟩
  have hle : a ≤ 4095 ∧ b ≤ 4095 ∧ c ≤ 4095 ∧ d ≤ 4095 := by simpa using htotals
  dsimp only at hmisses
  simp only [rowBytes, wordBytes, Vector.toList_mk, List.flatMap_cons, List.flatMap_nil, List.cons_append, List.nil_append,
    readRow, readBool_byteOf]
  rw [readWord_wordBytes (by omega), readWord_wordBytes (by omega), readWord_wordBytes (by omega), readWord_wordBytes (by omega),
    toNat_byteOf (by omega)]

theorem rowBytes_length (r : Row) : (rowBytes r).length = 10 := by
  obtain ⟨present, misses, totals⟩ := r
  rw [totals_eq totals]
  rfl

theorem readRows_rowBytes (rows : List Row) (rest : List Byte) (h : ∀ r ∈ rows, rowInRange r = true) :
    readRows rows.length (rows.flatMap rowBytes ++ rest) = some (rows, rest) := by
  induction rows with
  | nil => rfl
  | cons r rows ih =>
    have hrow := rowBytes_length r
    simp only [List.flatMap_cons, List.append_assoc, List.length_cons, readRows]
    rw [List.take_left' hrow, List.drop_left' hrow, readRow_rowBytes (h r List.mem_cons_self),
      ih fun x hx => h x (List.mem_cons_of_mem _ hx)]

theorem readEntries_entryBytes (es : List WaitEntry) (h : ∀ e ∈ es, entryInRange e = true) :
    readEntries (es.flatMap entryBytes) = some es := by
  induction es with
  | nil => rfl
  | cons e es ih =>
    have hunits : (byteOf e.units).toNat = e.units := by
      have he := h e List.mem_cons_self
      simp only [entryInRange, Bool.and_eq_true, decide_eq_true_eq] at he
      exact toNat_byteOf (by omega)
    simp only [List.flatMap_cons, entryBytes, List.cons_append, List.nil_append, readEntries,
      readFin_byteOf (by decide : 32 ≤ 256), readFin_byteOf (by decide : 6 ≤ 256), readFin_byteOf (by decide : 4 ≤ 256),
      readFin_byteOf (by decide : 16 ≤ 256), ih fun x hx => h x (List.mem_cons_of_mem _ hx), hunits]

theorem poolInRange_iff {p : Pool} :
    poolInRange p = true ↔ (∀ r ∈ p.rows.toList, rowInRange r = true) ∧ p.waitList.length ≤ 24
      ∧ ∀ e ∈ p.waitList, entryInRange e = true := by
  simp only [poolInRange, Bool.and_eq_true, List.all_eq_true, decide_eq_true_eq, and_assoc]

theorem readPool_poolBytes {p : Pool} (h : poolInRange p = true) : readPool (poolBytes p) = some p := by
  obtain ⟨hrows, hlen, hentries⟩ := poolInRange_iff.mp h
  have hread := readRows_rowBytes p.rows.toList (byteOf p.waitList.length :: p.waitList.flatMap entryBytes) hrows
  have hn : (byteOf p.waitList.length).toNat = p.waitList.length := toNat_byteOf (by omega)
  rw [Vector.length_toList] at hread
  simp only [poolBytes, List.cons_append, readPool, readFin_byteOf (by decide : 4 ≤ 256), hread, readEntries_entryBytes _ hentries,
    hn, Vector.length_toList, dite_true, if_true]
  rfl

/-! ### Bodies (R24, R25, R39) -/

theorem readBody_frameBody {f : Frame} (h : frameInRange f = true) : readBody (frameRank f) (frameBody f) = some f := by
  cases f with
  | stop t => simp [frameRank, frameBody, readBody, readTarget_targetByte]
  | census x =>
    obtain ⟨mode, terms, digest⟩ := x
    have hdigest : readWord (byteOf (digest.toNat / 256)) (byteOf digest.toNat) = digest.toNat :=
      readWord_wordBytes digest.isLt
    have hterms : readTerms (byteOf (terms.limit / 256)) (byteOf terms.limit) (byteOf terms.code) = terms :=
      readTerms_termsBytes h
    cases mode
    · simp [frameRank, frameBody, readBody, termsBytes, wordBytes, hterms, hdigest, show readBool (byteOf 0) = some false from rfl]
    · simp [frameRank, frameBody, readBody, termsBytes, wordBytes, hterms, hdigest, show readBool (byteOf 1) = some true from rfl]
  | shed form l =>
    have hl := readFin_byteOf (by decide : 4 ≤ 256) l
    cases form
    · simp [frameRank, frameBody, readBody, hl, show readBool (byteOf 0) = some false from rfl]
    · simp [frameRank, frameBody, readBody, hl, show readBool (byteOf 1) = some true from rfl]
  | release c k u form =>
    have hu : (byteOf u).toNat = u := toNat_byteOf (by simp [frameInRange] at h; omega)
    have hc := readFin_byteOf (by decide : 6 ≤ 256) c
    have hk := readFin_byteOf (by decide : 4 ≤ 256) k
    cases form
    · simp [frameRank, frameBody, readBody, hc, hk, hu, show readFin 3 (byteOf 0) = some 0 from rfl]
    · simp [frameRank, frameBody, readBody, hc, hk, hu, show readFin 3 (byteOf 1) = some 1 from rfl]
    · simp [frameRank, frameBody, readBody, hc, hk, hu, show readFin 3 (byteOf 2) = some 2 from rfl]
  | snapshot t p =>
    simp only [frameInRange, Bool.and_eq_true] at h
    simp [frameRank, frameBody, readBody, termsBytes, wordBytes, readTerms_termsBytes h.1, readPool_poolBytes h.2]
  | join t => simp [frameRank, frameBody, readBody, termsBytes, wordBytes, readTerms_termsBytes (t := t) h]
  | go g => simp [frameRank, frameBody, readBody, readFin_byteOf (by decide : 16 ≤ 256) g]
  | claim c k u g w =>
    have hu : (byteOf u).toNat = u := toNat_byteOf (by simp [frameInRange] at h; omega)
    simp [frameRank, frameBody, readBody, readFin_byteOf (by decide : 6 ≤ 256) c, readFin_byteOf (by decide : 4 ≤ 256) k,
      readFin_byteOf (by decide : 16 ≤ 256) g, readBool_byteOf, hu]
  | note t d =>
    have hd : (byteOf d.length).toNat = d.length := toNat_byteOf (by simp [frameInRange] at h; omega)
    simp [frameRank, frameBody, readBody, readTarget_targetByte, hd]

theorem receiveBody_frameBody {f : Frame} (h : frameInRange f = true) : receiveBody (frameRank f) (frameBody f) = some f := by
  rw [receiveBody, readBody_frameBody h]
  exact if_pos h

theorem length_flatMap_const {α β : Type} {g : α → List β} {k : Nat} (hg : ∀ a, (g a).length = k) (l : List α) :
    (l.flatMap g).length = k * l.length := by
  induction l with
  | nil => rfl
  | cons a l ih =>
    rw [List.flatMap_cons, List.length_append, hg, ih, List.length_cons]
    ring

/-- The length field of a SNAPSHOT stands behind the terms, the level and 32 rows (R39). -/
theorem snapshotBody_split (t : Terms) (p : Pool) :
    ∃ front : List Byte, front.length = 324
      ∧ frameBody (.snapshot t p) = front ++ byteOf p.waitList.length :: p.waitList.flatMap entryBytes := by
  refine ⟨termsBytes t ++ byteOf p.level.val :: p.rows.toList.flatMap rowBytes, ?_, ?_⟩
  · rw [List.length_append, List.length_cons, length_flatMap_const rowBytes_length, Vector.length_toList]
    rfl
  · simp [frameBody, poolBytes]

/-- A receiver works out the body's length from the kind and its length field, whatever follows the body (R24). -/
theorem bodyLength_frameBody {f : Frame} (h : frameInRange f = true) (rest : List Byte) :
    bodyLength (frameRank f) (frameBody f ++ rest) = some (frameBody f).length := by
  cases f with
  | stop t => rfl
  | census x => rfl
  | shed form l => rfl
  | release c k u form => rfl
  | join t => rfl
  | go g => rfl
  | claim c k u g w => rfl
  | snapshot t p =>
    obtain ⟨front, hfront, hbody⟩ := snapshotBody_split t p
    simp only [frameInRange, Bool.and_eq_true] at h
    obtain ⟨-, hlen, -⟩ := poolInRange_iff.mp h.2
    have hn : (byteOf p.waitList.length).toNat = p.waitList.length := toNat_byteOf (by omega)
    have hentry : ∀ e, (entryBytes e).length = 5 := fun _ => rfl
    have hfield : (front ++ byteOf p.waitList.length :: p.waitList.flatMap entryBytes ++ rest)[324]?
        = some (byteOf p.waitList.length) := by
      rw [List.append_assoc, List.getElem?_append_right (by omega), hfront]
      rfl
    rw [hbody]
    simp only [frameRank, bodyLength, hfield, hn, List.length_append, List.length_cons, length_flatMap_const hentry, hfront]
    congr 1
    omega
  | note t d =>
    simp only [frameInRange, Bool.and_eq_true, decide_eq_true_eq] at h
    have hn : (byteOf d.length).toNat = d.length := toNat_byteOf (by omega)
    simp only [frameRank, bodyLength, frameBody, List.cons_append, List.getElem?_cons_succ, List.getElem?_cons_zero, hn,
      List.length_cons]
    rw [if_neg (by omega)]
    congr 1
    omega

/-! ### Whole frames (R24, R25) -/

theorem frameBits_eq (n : StationNo) (f : Frame) :
    frameBits n f = natBits 4 (frameRank f) ++ (natBits 5 n.val ++ (bytesBits (frameBody f)
      ++ (natBits 16 (crc (arbitrationBits (frameRank f) n ++ bytesBits (frameBody f))).toNat ++ [false]))) := by
  simp [frameBits, arbitrationBits]

theorem frameBits_length (n : StationNo) (f : Frame) : (frameBits n f).length = 26 + 8 * (frameBody f).length := by
  simp only [frameBits_eq, List.length_append, natBits_length, bytesBits_length, List.length_cons, List.length_nil]
  omega

theorem frameRank_lt (f : Frame) : frameRank f < 16 := by cases f <;> simp [frameRank]

/-- A receiver makes of a frame's bits its sender and the frame (R25). -/
theorem receiveBits_frameBits (n : StationNo) {f : Frame} (h : frameInRange f = true) : receiveBits (frameBits n f) = some (n, f) := by
  have hbits := frameBits_eq n f
  set covered := arbitrationBits (frameRank f) n ++ bytesBits (frameBody f) with hcovered
  set check := natBits 16 (crc covered).toNat with hcheck
  have hrank : bitsNat ((frameBits n f).take 4) = frameRank f := by
    rw [hbits, List.take_left' (natBits_length _ _), bitsNat_natBits]
    exact Nat.mod_eq_of_lt (frameRank_lt f)
  have hfield : (frameBits n f).drop 4 = natBits 5 n.val ++ (bytesBits (frameBody f) ++ (check ++ [false])) := by
    rw [hbits, List.drop_left' (natBits_length _ _)]
  have hsender : bitsNat (((frameBits n f).drop 4).take 5) = n.val := by
    rw [hfield, List.take_left' (natBits_length _ _), bitsNat_natBits]
    exact Nat.mod_eq_of_lt n.isLt
  have hrest : (frameBits n f).drop 9 = bytesBits (frameBody f) ++ (check ++ [false]) := by
    rw [show 9 = 4 + 5 from rfl, ← List.drop_drop, hfield, List.drop_left' (natBits_length _ _)]
  have hbytes := bytesBits_length (frameBody f)
  have hafter : ((frameBits n f).drop 9).drop (8 * (frameBody f).length) = check ++ [false] := by
    rw [hrest, List.drop_left' hbytes]
  have hend : ((frameBits n f).drop 9).drop (8 * (frameBody f).length + 16) = [false] := by
    rw [← List.drop_drop, hafter, List.drop_left' (natBits_length _ _)]
  have hprefix : (frameBits n f).take (9 + 8 * (frameBody f).length) = covered := by
    have hsplit : frameBits n f = covered ++ (check ++ [false]) := by
      rw [frameBits, ← hcovered, ← hcheck, List.append_assoc]
    rw [hsplit, List.take_left']
    rw [hcovered, List.length_append, arbitrationBits_length, hbytes]
  have hread : (((frameBits n f).drop 9).drop (8 * (frameBody f).length)).take 16
      = natBits 16 (crc ((frameBits n f).take (9 + 8 * (frameBody f).length))).toNat := by
    rw [hafter, List.take_left' (natBits_length _ _), hprefix]
  have hbody : bitsBytes ((frameBits n f).drop 9) = frameBody f ++ bitsBytes (check ++ [false]) := by
    rw [hrest, bitsBytes_bytesBits]
  simp only [receiveBits, hrank, hsender, hbody, bodyLength_frameBody h]
  rw [if_pos ⟨hend, hread⟩, List.take_left' rfl, receiveBody_frameBody h]
  exact dif_pos n.isLt

/-- The bits on SHD fill the frame's length (R39). -/
theorem shdBits_length (n : StationNo) (f : Frame) (m : Maps) : (shdBits n f m).length = frameTime f := by
  simp only [shdBits, frameTime, List.length_append, List.length_cons, frameBits_length]
  cases f <;> simp [mapsBits_length] <;> omega

/-- Settles O40: frames and maps read back from their bits, the union from the wired AND. -/
theorem frameBitsReceivedBack : Obligations.FrameBitsReceivedBack :=
  ⟨fun n f m h => ⟨receiveBits_frameBits n h, shdBits_length n f m⟩,
    fun m => ⟨mapsBits_length m, readMaps_mapsBits m, fun i => ⟨mapsBits_getD_joined m i, mapsBits_getD_syncing m i,
      mapsBits_getD_attention m i, mapsBits_getD_dissent m i⟩⟩, readMaps_wireBits⟩

end Sys2Proof.Machine
end

section
/-! Several stations on one wire (spec/02_the_share_line.md R18, R22, R32): the lowest arbitration field is what SHD carries, and of two
frames that differ the one that sends the first dominant bit. -/

namespace Sys2Proof.Machine

open Sys2Proof.Safety Sys2Proof.Obl

/-! ### The wire at one bit -/

theorem wireLevel_heads {fields : List (List Bool)} :
    wireLevel (fields.map fun f => f.headD true) = true ↔ ∀ f ∈ fields, f.headD true = true := by
  simp [wireLevel_true]

/-- The stations that still drive after a bit: those that sent the wire's level. -/
def stillDriving (level : Bool) (fields : List (List Bool)) : List (List Bool) :=
  (fields.filter fun f => f.headD true == level).map List.tail

theorem mem_stillDriving {level : Bool} {fields : List (List Bool)} {f : List Bool} (h : level :: f ∈ fields) :
    f ∈ stillDriving level fields :=
  List.mem_map.mpr ⟨level :: f, List.mem_filter.mpr ⟨h, by simp⟩, rfl⟩

/-- Of fields with a bit left, each that still drives had the level before it. -/
theorem of_mem_stillDriving {level : Bool} {fields : List (List Bool)} {n : Nat} (hlen : ∀ f ∈ fields, f.length = n + 1)
    {f : List Bool} (h : f ∈ stillDriving level fields) : level :: f ∈ fields ∧ f.length = n := by
  obtain ⟨g, hg, rfl⟩ := List.mem_map.mp h
  obtain ⟨hm, hhead⟩ := List.mem_filter.mp hg
  have hlength := hlen g hm
  cases g with
  | nil => simp at hlength
  | cons b g =>
    have hb : b = level := by simpa using hhead
    subst hb
    exact ⟨hm, by simpa using hlength⟩

theorem contend_succ {n : Nat} {fields : List (List Bool)} {level : Bool}
    (h : wireLevel (fields.map fun f => f.headD true) = level) :
    contend (n + 1) fields = level :: contend n (stillDriving level fields) := by
  rw [contend, h]
  rfl

/-! ### Arbitration (R22) -/

/-- A field that no other is below is what the wire carries. -/
theorem contend_of_least {n : Nat} {fields : List (List Bool)} {own : List Bool} (hlen : ∀ f ∈ fields, f.length = n)
    (hown : own ∈ fields) (hleast : ∀ f ∈ fields, bitsNat own ≤ bitsNat f) : contend n fields = own := by
  induction n generalizing fields own with
  | zero => exact (List.eq_nil_of_length_eq_zero (hlen own hown)).symm
  | succ n ih =>
    cases own with
    | nil => simpa using hlen _ hown
    | cons b own =>
      have hlength : own.length = n := by simpa using hlen _ hown
      have hlevel : wireLevel (fields.map fun f => f.headD true) = b := by
        cases b with
        | false =>
          refine Bool.eq_false_of_not_eq_true fun h => ?_
          simpa using wireLevel_heads.mp h _ hown
        | true =>
          refine wireLevel_heads.mpr fun f hf => ?_
          have hle := hleast f hf
          cases f with
          | nil => rfl
          | cons c f =>
            cases c with
            | true => rfl
            | false =>
              have hf : f.length = n := by simpa using hlen _ hf
              have hlt := bitsNat_lt f
              rw [bitsNat_cons, bitsNat_cons, hlength] at hle
              rw [hf] at hlt
              simp at hle
              omega
      rw [contend_succ hlevel, ih (fun f hf => (of_mem_stillDriving hlen hf).2) (mem_stillDriving hown) fun f hf => ?_]
      obtain ⟨hm, hf⟩ := of_mem_stillDriving hlen hf
      have hle := hleast _ hm
      rw [bitsNat_cons, bitsNat_cons, hlength, hf] at hle
      omega

/-- A field that another is below reads dominant where it sent recessive. -/
theorem readField_of_lower {n : Nat} {fields : List (List Bool)} {own : List Bool} (hlen : ∀ f ∈ fields, f.length = n)
    (hown : own ∈ fields) (hlower : ∃ f ∈ fields, bitsNat f < bitsNat own) : readField own (contend n fields) = .lost := by
  induction n generalizing fields own with
  | zero =>
    obtain ⟨f, -, hf⟩ := hlower
    rw [List.eq_nil_of_length_eq_zero (hlen own hown)] at hf
    simp [bitsNat] at hf
  | succ n ih =>
    obtain ⟨f, hf, hlt⟩ := hlower
    cases own with
    | nil => simpa using hlen _ hown
    | cons b own =>
      have hlength : own.length = n := by simpa using hlen _ hown
      cases hlevel : wireLevel (fields.map fun f => f.headD true) with
      | true =>
        rw [contend_succ hlevel]
        have hb : b = true := by simpa using wireLevel_heads.mp hlevel _ hown
        have hc := wireLevel_heads.mp hlevel f hf
        subst hb
        cases f with
        | nil => simpa using hlen _ hf
        | cons c f =>
          have hc : c = true := hc
          subst hc
          have hflen : f.length = n := by simpa using hlen _ hf
          rw [readField, if_pos rfl]
          refine ih (fun g hg => (of_mem_stillDriving hlen hg).2) (mem_stillDriving hown) ⟨f, mem_stillDriving hf, ?_⟩
          rw [bitsNat_cons, bitsNat_cons, hlength, hflen] at hlt
          omega
      | false =>
        rw [contend_succ hlevel]
        cases b with
        | true => rfl
        | false =>
          rw [readField, if_pos rfl]
          cases f with
          | nil => simpa using hlen _ hf
          | cons c f =>
            have hflen : f.length = n := by simpa using hlen _ hf
            have hownlt := bitsNat_lt own
            rw [bitsNat_cons, bitsNat_cons, hlength, hflen] at hlt
            rw [hlength] at hownlt
            cases c with
            | true =>
              simp at hlt
              omega
            | false =>
              refine ih (fun g hg => (of_mem_stillDriving hlen hg).2) (mem_stillDriving hown) ⟨f, mem_stillDriving hf, ?_⟩
              simpa using hlt

/-- The nine bits spell the pair as one number (R22). -/
theorem bitsNat_fieldOf {x : Nat × StationNo} (hx : x.1 ≤ 8) : bitsNat (fieldOf x) = arbitrationKey x.1 x.2 := by
  have hn : x.2.val < 32 := x.2.isLt
  rw [show fieldOf x = natBits 4 x.1 ++ natBits 5 x.2.val from rfl, bitsNat_append, bitsNat_natBits, bitsNat_natBits,
    natBits_length, arbitrationKey]
  omega

theorem lowerPair_iff (x y : Nat × StationNo) : lowerPair x y ↔ arbitrationKey x.1 x.2 < arbitrationKey y.1 y.2 := by
  have hx : x.2.val < 32 := x.2.isLt
  have hy : y.2.val < 32 := y.2.isLt
  rw [lowerPair, arbitrationKey, arbitrationKey, Fin.lt_def]
  omega

theorem fieldOf_length (x : Nat × StationNo) : (fieldOf x).length = 9 := arbitrationBits_length x.1 x.2

theorem lowestPairWins : LowestPairWins := by
  intro others s hrank hothers own read
  have hranks : ∀ x ∈ own :: others, x.1 ≤ 8 := List.forall_mem_cons.mpr ⟨hrank, hothers⟩
  have hlen : ∀ f ∈ (own :: others).map fieldOf, f.length = 9 := by
    rintro f hf
    obtain ⟨x, -, rfl⟩ := List.mem_map.mp hf
    exact fieldOf_length x
  have hown : fieldOf own ∈ (own :: others).map fieldOf := List.mem_map_of_mem List.mem_cons_self
  have hcommand : s.fieldCommand read = match readField (fieldOf own) read with
      | .won => .arbitrationWon
      | .lost => .duplicateCollision .differs
      | .fault => .readbackFault := rfl
  refine ⟨fun hnone => ?_, fun ⟨o, ho, hlower⟩ => ?_, fun hs => ?_⟩
  · have hread : read = fieldOf own := contend_of_least hlen hown fun f hf => by
      obtain ⟨x, hx, rfl⟩ := List.mem_map.mp hf
      rw [bitsNat_fieldOf (hranks own List.mem_cons_self), bitsNat_fieldOf (hranks x hx)]
      rcases List.mem_cons.mp hx with rfl | hx
      · exact le_rfl
      · exact not_lt.mp fun h => hnone x hx ((lowerPair_iff x own).mpr h)
    rw [hcommand, hread, readField_self]
  · have hread : readField (fieldOf own) read = .lost := by
      refine readField_of_lower hlen hown ⟨fieldOf o, List.mem_map_of_mem (List.mem_cons_of_mem _ ho), ?_⟩
      rw [bitsNat_fieldOf (hothers o ho), bitsNat_fieldOf hrank]
      exact (lowerPair_iff o own).mp hlower
    rw [hcommand, hread]
  · change execDuplicateCollision .differs s = _
    simp only [execDuplicateCollision, hs]
    rfl

/-! ### A collision of twins (R32) -/

/-- A single station reads back all that it sends. -/
theorem contend_single (g : List Bool) : contend g.length [g] = g := by
  induction g with
  | nil => rfl
  | cons b g ih =>
    have hlevel : wireLevel ([b :: g].map fun f => f.headD true) = b := by simp [wireLevel]
    rw [List.length_cons, contend_succ hlevel]
    simp [stillDriving, ih]

/-- Two stations agree up to a bit that the second alone sends dominant: from there on it drives the wire alone. -/
theorem contend_pair (common restF restG : List Bool) :
    contend (common ++ false :: restG).length [common ++ true :: restF, common ++ false :: restG] = common ++ false :: restG := by
  induction common with
  | nil =>
    rw [List.nil_append, List.nil_append, List.length_cons, contend_succ (level := false) rfl]
    exact congrArg _ (contend_single restG)
  | cons b common ih =>
    have hlevel : wireLevel ([b :: (common ++ true :: restF), b :: (common ++ false :: restG)].map fun f => f.headD true) = b := by
      cases b <;> rfl
    rw [List.cons_append, List.cons_append, List.length_cons, contend_succ hlevel]
    simpa [stillDriving] using ih

theorem readField_differs (common restF restG : List Bool) :
    readField (common ++ true :: restF) (common ++ false :: restG) = .lost := by
  induction common with
  | nil => rfl
  | cons b common ih => simpa [readField] using ih

theorem readField_prefix (common rest : List Bool) : readField (common ++ rest) common = .won := by
  induction common with
  | nil => cases rest <;> rfl
  | cons b common ih => simpa [readField] using ih

theorem frameBits_split (n : StationNo) (f : Frame) :
    ∃ rest, frameBits n f = arbitrationBits (frameRank f) n ++ rest := by
  refine ⟨bytesBits (frameBody f)
    ++ (natBits 16 (crc (arbitrationBits (frameRank f) n ++ bytesBits (frameBody f))).toNat ++ [false]), ?_⟩
  simp [frameBits]

/-- Twins' frames of one rank agree in the whole arbitration field. -/
theorem field_le_common {n : StationNo} {f g : Frame} {common restF restG : List Bool} (hrank : frameRank f = frameRank g)
    (hf : frameBits n f = common ++ true :: restF) (hg : frameBits n g = common ++ false :: restG) : 9 ≤ common.length := by
  by_contra hshort
  obtain ⟨tailF, hF⟩ := frameBits_split n f
  obtain ⟨tailG, hG⟩ := frameBits_split n g
  have hlt : common.length < (arbitrationBits (frameRank g) n).length := by rw [arbitrationBits_length]; omega
  have hbitF : (frameBits n f)[common.length]? = some true := by simp [hf]
  have hbitG : (frameBits n g)[common.length]? = some false := by simp [hg]
  rw [hF, hrank, List.getElem?_append_left hlt] at hbitF
  rw [hG, List.getElem?_append_left hlt, hbitF] at hbitG
  simp at hbitG

theorem twinFrameCarriedUnbroken : TwinFrameCarriedUnbroken := by
  intro f g common restF restG s hrank hf hg read
  have hnine := field_le_common hrank hf hg
  have hread : read = frameBits s.number g := by
    simp only [read, hf, hg]
    exact contend_pair common restF restG
  have hdrop : ∀ b rest, (common ++ b :: rest).drop 9 = common.drop 9 ++ b :: rest :=
    fun b rest => List.drop_append_of_le_length hnine
  have hlost : readField ((frameBits s.number f).drop 9) (read.drop 9) = .lost := by
    rw [hread, hf, hg, hdrop, hdrop]
    exact readField_differs _ restF restG
  have hcommon : readField ((frameBits s.number f).drop 9) ((read.take common.length).drop 9) = .won := by
    rw [hread, hf, hg, hdrop, List.take_left' rfl]
    exact readField_prefix _ _
  refine ⟨hread, ?_, ?_, ?_, fun hrange => ?_, fun hs => ⟨stopDrivingFrame s, ?_, rfl, fun w => dataOut_of_collided (s := stopDrivingFrame s) hs rfl w⟩⟩
  · simp only [State.frameCommand, hlost]
  · simp only [State.frameCommand, hcommon]
  · simp only [State.frameCommand, hread, readField_self]
  · rw [hread, collisionCommand, receiveBits_frameBits s.number hrange]
    rfl
  · change execDuplicateCollision .differs s = _
    simp only [execDuplicateCollision, hs]

/-- Settles O60: the lowest field is carried, and of twins' frames the one with the first dominant bit. -/
theorem lowestPairWinsArbitration : Obligations.LowestPairWinsArbitration := ⟨lowestPairWins, twinFrameCarriedUnbroken⟩

end Sys2Proof.Machine
end

section
/-! The supply states and the temperature states but for retirement (spec/08_monitors.md R147 to R154): each change of state raises its
event, and a sag episode asks for one shed raise. -/

namespace Sys2Proof.Machine

open Sys2Proof.Safety Sys2Proof.Obl

variable {s : State}

/-! ### Changes of state (R147, R150) -/

theorem setTemperature_eq (s : State) (t : TempState) :
    setTemperature s t = { flagged s [2] with monitor := { s.monitor with temperature := t } } := rfl

theorem setSupply_eq (s : State) (v : SupplyState) :
    setSupply s v = { flagged s [3] with monitor := { s.monitor with supply := v } } := rfl

theorem thermalWarning_of_normal {die : Int} (h : s.monitor.temperature = .normal) (hlow : 125 ≤ die) (hhigh : die < 150) :
    Gives (.thermalWarning die) s { flagged s [2] with monitor := { s.monitor with temperature := .warning } } := by
  change execThermalWarning die s = _
  rw [execThermalWarning, if_neg (by omega), if_pos ⟨h, hlow⟩, setTemperature_eq]

theorem thermalWarning_of_warning {die : Int} (h : s.monitor.temperature = .warning) (hlow : die < 110) :
    Gives (.thermalWarning die) s { flagged s [2] with monitor := { s.monitor with temperature := .normal } } := by
  change execThermalWarning die s = _
  rw [execThermalWarning, if_neg (by omega), if_neg (by simp [h]), if_pos ⟨h, hlow⟩, setTemperature_eq]

theorem shutdownExit_of_shutdown {die : Int} (h : s.monitor.temperature = .shutdown) (hlow : die < 135) :
    Gives (.shutdownExit die) s { flagged s [2] with monitor := { s.monitor with temperature := .warning } } := by
  change execShutdownExit die s = _
  rw [execShutdownExit, if_pos ⟨h, hlow⟩, setTemperature_eq]

theorem thermalWarning_idle {die : Int}
    (h : (die < 110 ∧ s.monitor.temperature ≠ .warning) ∨ (110 ≤ die ∧ die < 150 ∧ s.monitor.temperature = .warning)
      ∨ s.monitor.temperature = .shutdown) : Gives (.thermalWarning die) s s := by
  change execThermalWarning die s = _
  rcases h with ⟨hdie, htemp⟩ | ⟨hlow, hhigh, htemp⟩ | htemp
  · rw [execThermalWarning, if_neg (by omega), if_neg (by omega), if_neg (by simp [htemp])]
  · rw [execThermalWarning, if_neg (by omega), if_neg (by simp [htemp]), if_neg (by omega)]
  · rw [execThermalWarning, if_neg (by simp [htemp]), if_neg (by simp [htemp]), if_neg (by simp [htemp])]

theorem thermalShutdown_of_hot {die : Int} (h : s.monitor.temperature ≠ .shutdown) (hdie : 150 ≤ die) :
    exec (.thermalShutdown die) s = .next (enterShutdown s) := by
  change execThermalShutdown die s = _
  rw [execThermalShutdown, if_pos ⟨h, hdie⟩]

theorem thermalWarning_of_hot {die : Int} (h : s.monitor.temperature ≠ .shutdown) (hdie : 150 ≤ die) :
    exec (.thermalWarning die) s = .next (enterShutdown s) := by
  change execThermalWarning die s = _
  rw [execThermalWarning, if_pos ⟨h, hdie⟩]

theorem lockoutEntry_of_low {vs : Nat} (h : s.monitor.supply ≠ .lockout) (hvs : vs < 15000) :
    exec (.lockoutEntry vs) s = .next (setSupply (retire s .supply) .lockout) := by
  change execLockoutEntry vs s = _
  rw [execLockoutEntry, if_pos ⟨h, hvs⟩]

theorem lockoutExit_of_high {vs : Nat} (h : s.monitor.supply = .lockout) (hvs : 16000 < vs) :
    Gives (.lockoutExit vs) s { flagged s [3] with monitor := { s.monitor with supply := .normal } } := by
  change execLockoutExit vs s = _
  rw [execLockoutExit, if_pos ⟨h, hvs⟩, setSupply_eq]

theorem sagThreshold_eq (s : State) : s.sagThreshold = 17000 + 500 * s.settings.sagCode := rfl

theorem sagEpisodeClose_of_high {vs : Nat} (h : s.monitor.supply = .sag) (hvs : 18000 + 500 * s.settings.sagCode < vs) :
    Gives (.sagEpisodeClose vs) s { flagged s [3] with monitor := { s.monitor with supply := .normal } } := by
  change execSagEpisodeClose vs s = _
  rw [execSagEpisodeClose, if_pos ⟨h, by rw [sagThreshold_eq]; omega⟩, setSupply_eq]

/-! ### The raise a sag episode asks for (R53, R153) -/

theorem requestRaise_off (h : s.settings.sagShedding = false ∨ s.member.station ≠ .joined ∨ s.pool.level = 3) :
    requestRaise s = s := by
  refine if_neg ?_
  rintro ⟨hshed, hjoined, hlevel⟩
  rcases h with h | h | h
  · simp [h] at hshed
  · exact h (of_decide_eq_true hjoined)
  · rw [h] at hlevel
    exact absurd hlevel (by decide)

theorem requestRaise_on (hshed : s.settings.sagShedding = true) (hjoined : s.member.station = .joined) (hlevel : s.pool.level < 3) :
    requestRaise s = sagRaise s :=
  if_pos ⟨hshed, decide_eq_true hjoined, hlevel⟩

theorem sagRaise_of_empty (hlevel : s.pool.level < 3) (h : ∀ e ∈ s.queue.entries, e.owner ≠ .shed) :
    sagRaise s = { s with queue := placed s.queue .shed (.shed .raise s.pool.level) } := by
  have hslot : s.queue.entryOf .shed = none := TxQueue.entryOf_none.mpr h
  simp only [sagRaise, if_neg (ne_of_lt hlevel), hslot, State.place, TxQueue.place_eq, ↓reduceIte]
  rfl

theorem sagRaise_of_onLine (hlevel : s.pool.level < 3) {e : Entry} (hslot : s.queue.entryOf .shed = some e) (hon : e.onLine = true) :
    sagRaise s = { s with queue := { s.queue with deferredRaise := true } } := by
  simp only [sagRaise, if_neg (ne_of_lt hlevel), hslot, if_pos hon]
  rfl

/-- A SET above the level asks for more than the raise would: it stays. -/
theorem sagRaise_of_higher (hlevel : s.pool.level < 3) {e : Entry} (hslot : s.queue.entryOf .shed = some e) (hon : e.onLine = false)
    {l : ShedLevel} (hset : e.content = .shed .set l) (hl : s.pool.level < l) : sagRaise s = s := by
  simp only [sagRaise, if_neg (ne_of_lt hlevel), hslot, hon, hset, if_pos hl, Bool.false_eq_true, ↓reduceIte]

theorem sagRaise_of_unsent (hlevel : s.pool.level < 3) {e : Entry} (hslot : s.queue.entryOf .shed = some e) (hon : e.onLine = false)
    (hset : ∀ l : ShedLevel, e.content = .shed .set l → l ≤ s.pool.level) :
    sagRaise s = s.rewrite .shed (.shed .raise s.pool.level) := by
  simp only [sagRaise, if_neg (ne_of_lt hlevel), hslot, hon, Bool.false_eq_true, ↓reduceIte]
  split
  case h_1 l hc => exact if_neg (not_lt.mpr (hset l hc))
  case h_2 => rfl

/-- A slot holds one entry: where that is unsent, the rewrite is of the slot. -/
theorem rewrite_eq_rewritten {q : TxQueue} (hn : (q.entries.map Entry.owner).Nodup) {e : Entry} (he : e ∈ q.entries)
    (hon : e.onLine = false) (k : Content) : q.rewrite e.owner k = rewritten q e.owner k := by
  have hentries : ∀ d ∈ q.entries, (if d.owner = e.owner ∧ d.onLine = false then { d with content := k } else d)
      = if d.owner = e.owner then { d with content := k } else d := by
    intro d hd
    by_cases ho : d.owner = e.owner
    · rw [if_pos ⟨ho, by rw [entry_unique hn hd he ho]; exact hon⟩, if_pos ho]
    · rw [if_neg (by tauto), if_neg ho]
  rw [TxQueue.rewrite, List.map_congr_left hentries]
  rfl

theorem sagEpisodeOpen_eq {vs : Nat} (h : s.monitor.supply = .normal) (hs : s.member.station ≠ .unconfigured)
    (hvs : vs < 17000 + 500 * s.settings.sagCode) :
    exec (.sagEpisodeOpen vs) s = .next (requestRaise (setSupply s .sag)) := by
  change execSagEpisodeOpen vs s = _
  rw [execSagEpisodeOpen, if_pos ⟨h, hs, hvs⟩]

theorem sagOpensAndAsksRaise : SagOpensAndAsksRaise := by
  intro vs s hnormal hstation hvs hslots
  have hopen := sagEpisodeOpen_eq hnormal hstation hvs
  refine ⟨fun hoff => ?_, fun hshed hjoined hlevel => ?_⟩
  · exact hopen.trans (congrArg _ (requestRaise_off (s := setSupply s .sag) hoff))
  have hraise := hopen.trans (congrArg _ (requestRaise_on (s := setSupply s .sag) hshed hjoined hlevel))
  refine ⟨fun hempty => ?_, fun e he ho => ?_⟩
  · exact hraise.trans (congrArg _ (sagRaise_of_empty (s := setSupply s .sag) hlevel hempty))
  have hslot : (setSupply s .sag).queue.entryOf .shed = some e := (entryOf_eq_some hslots.1).mpr ⟨he, ho⟩
  refine ⟨fun hon => ?_, fun l hon hset hl => ?_, fun hon hset => ?_⟩
  · exact hraise.trans (congrArg _ (sagRaise_of_onLine (s := setSupply s .sag) hlevel hslot hon))
  · exact hraise.trans (congrArg _ (sagRaise_of_higher (s := setSupply s .sag) hlevel hslot hon hset hl))
  · have hrewrite := rewrite_eq_rewritten hslots.1 he hon (.shed .raise s.pool.level)
    rw [ho] at hrewrite
    rw [← hrewrite]
    exact hraise.trans (congrArg _ (sagRaise_of_unsent (s := setSupply s .sag) hlevel hslot hon hset))

end Sys2Proof.Machine
end

section
/-! What the queue's operations make of a slot, of the others and of the owners (spec/03_the_transmit_queue.md R40, R41, R44), one
channel's record and slot written at once, and the operations that take a driving channel out of service (spec/06_output_channels.md
R113, R125, R127) in that form. -/

namespace Sys2Proof.Machine

open Sys2Proof.Safety Sys2Proof.Obl

variable {s : State} {c : ChanNo} {q : TxQueue} {o p : Owner} {k : Content}

/-! ### Slots after a placement, a rewrite, a removal (R40, R44) -/

theorem place_of_empty (h : q.entryOf o = none) (k : Content) : q.place o k = { q with entries := q.entries ++ [⟨o, k, 0, false⟩] } := by
  rw [TxQueue.place_eq, if_pos h]

theorem entryOf_place_self (h : q.entryOf o = none) : (q.place o k).entryOf o = some ⟨o, k, 0, false⟩ := by
  rw [place_of_empty h]
  rw [TxQueue.entryOf] at h
  simp [TxQueue.entryOf, List.find?_append, h]

theorem entryOf_place_of_ne (hp : p ≠ o) : (q.place o k).entryOf p = q.entryOf p := by
  rw [TxQueue.place_eq]
  split
  · simp [TxQueue.entryOf, List.find?_append, hp.symm]
  · rfl

theorem owners_place (h : q.entryOf o = none) : (q.place o k).entries.map Entry.owner = q.entries.map Entry.owner ++ [o] := by
  simp [place_of_empty h]

theorem entryOf_rewrite (q : TxQueue) (o p : Owner) (k : Content) :
    (q.rewrite o k).entryOf p = (q.entryOf p).map fun e => if e.owner = o ∧ e.onLine = false then { e with content := k } else e := by
  simp only [TxQueue.entryOf, TxQueue.rewrite, List.find?_map]
  congr 1
  refine List.find?_congr fun e _ => ?_
  simp only [Function.comp]
  split <;> rfl

theorem entryOf_rewrite_self {e : Entry} (h : q.entryOf o = some e) (hon : e.onLine = false) :
    (q.rewrite o k).entryOf o = some { e with content := k } := by
  rw [entryOf_rewrite, h, Option.map_some, if_pos ⟨(TxQueue.entryOf_some h).1, hon⟩]

theorem entryOf_rewrite_of_ne (hp : p ≠ o) : (q.rewrite o k).entryOf p = q.entryOf p := by
  rw [entryOf_rewrite]
  cases h : q.entryOf p with
  | none => rfl
  | some e => rw [Option.map_some, if_neg fun ho => hp ((TxQueue.entryOf_some h).1.symm.trans ho.1)]

theorem owners_rewrite (q : TxQueue) (o : Owner) (k : Content) :
    (q.rewrite o k).entries.map Entry.owner = q.entries.map Entry.owner := by
  simp only [TxQueue.rewrite, List.map_map]
  refine List.map_congr_left fun e _ => ?_
  simp only [Function.comp]
  split <;> rfl

theorem entryOf_removeUnsent_of_ne (hp : p ≠ o) : (q.removeUnsent o).entryOf p = q.entryOf p := by
  simp only [TxQueue.entryOf, TxQueue.removeUnsent, List.find?_filter]
  refine List.find?_congr fun e _ => ?_
  by_cases he : e.owner = p
  · simp [he, hp]
  · simp [he]

theorem unsent_of_not_frozen (hn : (q.entries.map Entry.owner).Nodup) (h : q.frozen o = false) :
    ∀ e ∈ q.entries, e.owner = o → e.onLine = false := by
  intro e he ho
  cases hon : e.onLine
  · rfl
  · rw [(frozen_iff hn).mpr ⟨e, he, ho, hon⟩] at h
    exact absurd h (by decide)

theorem entryOf_removeUnsent_self (hn : (q.entries.map Entry.owner).Nodup) (h : q.frozen o = false) :
    (q.removeUnsent o).entryOf o = none := by
  refine TxQueue.entryOf_none.mpr fun e he ho => ?_
  obtain ⟨hm, hon⟩ := TxQueue.mem_removeUnsent.mp he
  rw [unsent_of_not_frozen hn h e hm ho] at hon
  exact absurd (hon ho) (by decide)

theorem owners_removeUnsent (hn : (q.entries.map Entry.owner).Nodup) (h : q.frozen o = false) :
    (q.removeUnsent o).entries.map Entry.owner = (q.entries.map Entry.owner).filter fun p => decide (p ≠ o) := by
  rw [TxQueue.removeUnsent, List.filter_map]
  congr 1
  refine List.filter_congr fun e he => ?_
  by_cases ho : e.owner = o
  · simp [ho, unsent_of_not_frozen hn h e he ho]
  · simp [ho]

/-! ### One channel's record and slot at once -/

/-- The station with one channel's record and the queue's entries replaced. -/
def withRecord (s : State) (c : ChanNo) (es : List Entry) (x : Channel) : State :=
  { s with queue := { s.queue with entries := es }, chan := putChannel s.chan c x }

theorem setChannel_eq (s : State) (c : ChanNo) (x : Channel) : s.setChannel c x = withRecord s c s.queue.entries x := rfl

theorem withRecord_self (s : State) (c : ChanNo) : withRecord s c s.queue.entries (s.channel c) = s := by
  have hset : s.chan.channels.set c (s.channel c) = s.chan.channels := Vector.set_getElem_self c.isLt
  rw [withRecord, putChannel, hset]

theorem channel_withRecord_self (s : State) (c : ChanNo) (es : List Entry) (x : Channel) : (withRecord s c es x).channel c = x := by
  simp [State.channel, withRecord, putChannel]

theorem channel_withRecord_of_ne (s : State) {c d : ChanNo} (h : d ≠ c) (es : List Entry) (x : Channel) :
    (withRecord s c es x).channel d = s.channel d := by
  have : (c : Nat) ≠ d := fun e => h (Fin.ext e.symm)
  simp [State.channel, withRecord, putChannel, this]

theorem updChannel_withRecord (s : State) (c : ChanNo) (es : List Entry) (x : Channel) (f : Channel → Channel) :
    (withRecord s c es x).updChannel c f = withRecord s c es (f x) := by
  rw [State.updChannel, channel_withRecord_self]
  simp [State.setChannel, State.withChan, withRecord, putChannel, Vector.set_set]

/-- Retirement's last two steps: the reason, and STOPPED. -/
theorem retired_flagged (s : State) (c : ChanNo) (es : List Entry) (x : Channel) (r : Reason) (l : List (Fin 27)) :
    ((flagged (withRecord s c es x) l).updChannel c fun y => { y with lastReason := some r }).raise (.stopped c)
      = flagged (withRecord s c es { x with lastReason := some r }) (l ++ [stoppedFlag c]) := by
  change flagged (flagged ((withRecord s c es x).updChannel c fun y => { y with lastReason := some r }) l) [stoppedFlag c] = _
  rw [updChannel_withRecord, flagged_flagged]

/-! ### A driving channel stops (R113, R125, R127) -/

/-- The entries once a driving channel has stopped: its FULL release placed where units go back, an unsent TRIM rewritten to it, an
entry on the line untouched. -/
def stoppedEntries (s : State) (c : ChanNo) : List Entry :=
  match s.queue.entryOf (.channel c) with
  | none => if givesBack s c then (s.queue.place (.channel c) (fullOf s c)).entries else s.queue.entries
  | some e => if e.onLine then s.queue.entries else (s.queue.rewrite (.channel c) (fullOf s c)).entries

/-- Its record: `busy` where it has units to give back or a frame pending, else `idle`. -/
def stoppedRecord (s : State) (c : ChanNo) (busy idle : ChState) : Channel :=
  { s.channel c with state := if givesBack s c then busy else idle, inrushTimer := none, followUp := s.queue.frozen (.channel c) }

/-- A slot of a channel holds a frame of that channel (R41). -/
def SlotOwned (s : State) (c : ChanNo) : Prop := ∀ e : Entry, s.queue.entryOf (.channel c) = some e → contentOwner e.content = .channel c

theorem SlotOwned.pending_ne_none (h : SlotOwned s c) {e : Entry} (he : s.queue.entryOf (.channel c) = some e) :
    s.pendingFrame c ≠ .none := by
  have howner := h e he
  unfold State.pendingFrame
  rw [he]
  dsimp only
  cases hk : e.content with
  | release d cls u f => cases f <;> simp
  | claim d cls u g w => simp
  | _ => simp [hk, contentOwner] at howner

theorem pending_of_empty (h : s.queue.entryOf (.channel c) = none) : s.pendingFrame c = .none := by
  unfold State.pendingFrame
  rw [h]

theorem SlotOwned.empty_of_pending (h : SlotOwned s c) (hp : s.pendingFrame c = .none) : s.queue.entryOf (.channel c) = none := by
  cases he : s.queue.entryOf (.channel c) with
  | none => rfl
  | some e => exact absurd hp (h.pending_ne_none he)

theorem SlotOwned.givesBack_of_some (h : SlotOwned s c) {e : Entry} (he : s.queue.entryOf (.channel c) = some e) :
    givesBack s c = true := by
  simp [givesBack, h.pending_ne_none he]

theorem givesBack_of_empty (h : s.queue.entryOf (.channel c) = none) :
    givesBack s c = true ↔ (s.channel c).state = .inrush ∨ 0 < (s.channel c).counted := by
  simp [givesBack, pending_of_empty h]

theorem frozen_of_slot {e : Entry} (he : q.entryOf o = some e) : q.frozen o = e.onLine := by
  simp [TxQueue.frozen, he]

theorem frozen_of_empty (he : q.entryOf o = none) : q.frozen o = false := by
  simp [TxQueue.frozen, he]

theorem stopDriving_eq (hslot : SlotOwned s c) (hf : (s.channel c).followUp = false) (busy idle : ChState) :
    stopDriving s c busy idle = withRecord s c (stoppedEntries s c) (stoppedRecord s c busy idle) := by
  unfold stopDriving stoppedEntries stoppedRecord
  dsimp only
  cases he : s.queue.entryOf (.channel c) with
  | none =>
    dsimp only
    rw [frozen_of_empty he, ← hf]
    by_cases hg : givesBack s c = true
    · rw [if_pos ((givesBack_of_empty he).mp hg), if_pos hg, if_pos hg, placeFull, State.place, place_of_empty he]
      rfl
    · rw [if_neg (mt (givesBack_of_empty he).mpr hg), if_neg hg, if_neg hg]
      rfl
  | some e =>
    dsimp only
    rw [frozen_of_slot he, if_pos (hslot.givesBack_of_some he)]
    cases hon : e.onLine
    · rw [if_neg (by decide), if_neg (by decide), ← hf]
      rfl
    · rw [if_pos rfl, if_pos rfl]
      rfl

/-- A stopping fault on a record that holds none: the record is written, and FAULT raised (R142). -/
theorem writeRecord_stopping {es : List Entry} {x : Channel} (hfault : x.fault.any (fun r => r.stopping) = false) (kind : FaultKind)
    (value : Nat) (found : ChState) :
    writeRecord (withRecord s c es x) c kind true value found
      = flagged (withRecord s c es { x with fault := some ⟨kind, true, s.monitor.clock, value, found, x.fault.isSome⟩ }) [faultFlag c] := by
  have hput : ∀ r : FaultRecord, (((withRecord s c es x).updChannel c fun y => { y with fault := some r }).raise (.fault c))
      = flagged (withRecord s c es { x with fault := some r }) [faultFlag c] := by
    intro r
    rw [updChannel_withRecord, raise_eq_flagged]
    rfl
  unfold writeRecord
  rw [channel_withRecord_self]
  dsimp only
  cases hx : x.fault with
  | none => exact hput _
  | some r =>
    have hr : r.stopping = false := by simpa [hx] using hfault
    dsimp only
    rw [if_neg (by simp [hr]), if_pos rfl]
    exact hput _

end Sys2Proof.Machine
end

section
/-! Retirement with reason HOT or SUPPLY of one channel (spec/06_output_channels.md R113, R127, R129): what the channels of a list, one
retired after another, make of a station, and that one channel's retirement does so in every state of R110. -/

namespace Sys2Proof.Machine

open Sys2Proof.Safety Sys2Proof.Obl

variable {r : Reason} {s t u : State} {c : ChanNo} {l : List ChanNo}

/-! ### The retirement of a list of channels -/

/-- The line once the channels of `l` are retired: an offer in arbitration goes with the CLAIM removed (R23). -/
def withoutOffer (s : State) (l : List ChanNo) : Line :=
  if s.line.state = .arbitrating ∧ (∃ c ∈ l, claimRemoved s c = true ∧ s.line.offer = some (.entry (.channel c))) then
    { s.line with offer := none }
  else s.line

/-- The probe unit once the channels of `l` left its queue: both counters 0 where the head has left (R135). -/
def probeWithout (l : List ChanNo) (p : Probe) : Probe :=
  { queue := p.queue.filter fun d => decide (d ∉ l)
    reference := if p.queue.head?.any (fun d => decide (d ∈ l)) then 0 else p.reference
    load := if p.queue.head?.any (fun d => decide (d ∈ l)) then 0 else p.load }

/-- Whether an owner's entry stays at the retirement of the channels of `l`. -/
def keepsSlot (s : State) (l : List ChanNo) : Owner → Bool
  | .channel c => !(decide (c ∈ l) && claimRemoved s c)
  | _ => true

/-- The events of one channel's retirement: the fault report of a driving channel that is too hot, and STOPPED (R129, R145). -/
def retireFlags (r : Reason) (s : State) (c : ChanNo) : List (Fin 27) :=
  (if r = .hot ∧ ((s.channel c).state = .inrush ∨ (s.channel c).state = .run) then [faultFlag c] else [])
    ++ if (s.channel c).state.inService then [stoppedFlag c] else []

/-- The channels of `l` are retired, and no other (R127): what `Obl.Retires` says of all six, for a part of them. -/
structure Retired (r : Reason) (l : List ChanNo) (s t : State) : Prop where
  frame : t = { s with
    line := t.line, queue := { s.queue with entries := t.queue.entries }, chan := t.chan, probe := t.probe
    port := { s.port with flags := t.port.flags } }
  line : t.line = withoutOffer s l
  probe : t.probe = probeWithout l s.probe
  starts : t.chan.startQueue = s.chan.startQueue.filter fun d => decide (d ∉ l)
  spacing : t.chan.spacing = s.chan.spacing
  latch : t.chan.latch = s.chan.latch
  record : ∀ c ∈ l, RetiredTo r s t c
  others : ∀ d ∉ l, t.channel d = s.channel d
  slots : ∀ o : Owner, (∀ c ∈ l, o ≠ .channel c) → t.queue.entryOf o = s.queue.entryOf o
  owners : t.queue.entries.map Entry.owner
    = (s.queue.entries.map Entry.owner).filter (keepsSlot s l) ++ (l.filter (releasePlaced s)).map Owner.channel
  nodup : (t.queue.entries.map Entry.owner).Nodup
  raises : Raises s t (l.flatMap (retireFlags r s))

/-! ### What a channel needs to be retired in order -/

/-- A channel of a station in order (R41, R110, R121, R131, R143). -/
structure ReadyAt (s : State) (c : ChanNo) : Prop where
  fits : channelFits s c
  slot : SlotOwned s c
  fault : driving s c → (s.channel c).fault.any (fun f => f.stopping) = false
  starts : c ∈ s.chan.startQueue ↔ (s.channel c).state = .startWait
  probes : c ∈ s.probe.queue ↔ (s.channel c).state = .probing

/-! ### What is beside the channel's record and slot -/

/-- The line, the probe unit and the start queue once one channel is retired, and nothing else. -/
def around (s : State) (c : ChanNo) : State :=
  { s with
    line := withoutOffer s [c], probe := probeWithout [c] s.probe
    chan := { s.chan with startQueue := s.chan.startQueue.filter fun d => decide (d ∉ [c]) } }

theorem withoutOffer_of_not_removed (h : claimRemoved s c = false) : withoutOffer s [c] = s.line := by
  simp [withoutOffer, h]

theorem probeWithout_of_not_mem {p : Probe} (h : c ∉ p.queue) : probeWithout [c] p = p := by
  have hqueue : (p.queue.filter fun d => decide (d ∉ [c])) = p.queue :=
    List.filter_eq_self.mpr fun _ hd => decide_eq_true fun hm => h (List.mem_singleton.mp hm ▸ hd)
  have hhead : p.queue.head?.any (fun d => decide (d ∈ [c])) = false := by
    cases hq : p.queue with
    | nil => rfl
    | cons d l => exact decide_eq_false fun hm => h (by simp [hq, List.mem_singleton.mp hm])
  simp only [probeWithout, hqueue, hhead, Bool.false_eq_true, ↓reduceIte]

theorem startQueue_of_not_mem (h : c ∉ s.chan.startQueue) :
    (s.chan.startQueue.filter fun d => decide (d ∉ [c])) = s.chan.startQueue :=
  List.filter_eq_self.mpr fun _ hd => decide_eq_true fun hm => h (List.mem_singleton.mp hm ▸ hd)

theorem ReadyAt.around_eq (h : ReadyAt s c) (hclaim : claimRemoved s c = false) (hprobe : (s.channel c).state ≠ .probing)
    (hstart : (s.channel c).state ≠ .startWait) : around s c = s := by
  rw [around, withoutOffer_of_not_removed hclaim, probeWithout_of_not_mem (mt h.probes.mp hprobe),
    startQueue_of_not_mem (mt h.starts.mp hstart)]

theorem claimRemoved_of_ne (h : (s.channel c).state ≠ .claiming) : claimRemoved s c = false := by simp [claimRemoved, h]

theorem claimRemoved_of_frozen (h : s.queue.frozen (.channel c) = true) : claimRemoved s c = false := by simp [claimRemoved, h]

theorem ReadyAt.leaveProbe_eq (h : ReadyAt s c) (hs : (s.channel c).state = .probing) : leaveProbe s c = around s c := by
  rw [around, withoutOffer_of_not_removed (claimRemoved_of_ne (by simp [hs])),
    startQueue_of_not_mem (mt h.starts.mp (by simp [hs]))]
  have hhead : s.probe.queue.head?.any (fun d => decide (d ∈ [c])) = true ↔ s.probe.queue.head? = some c := by
    cases hq : s.probe.queue <;> simp
  simp only [leaveProbe, probeWithout, hhead]
  split <;> simp [State.withProbe]

theorem ReadyAt.leaveStartQueue_eq (h : ReadyAt s c) (hs : (s.channel c).state = .startWait) : leaveStartQueue s c = around s c := by
  rw [around, withoutOffer_of_not_removed (claimRemoved_of_ne (by simp [hs])),
    probeWithout_of_not_mem (mt h.probes.mp (by simp [hs]))]
  simp only [leaveStartQueue, List.mem_singleton]
  rfl

theorem ReadyAt.dropEntry_eq (h : ReadyAt s c) (hs : (s.channel c).state = .claiming) (hf : s.queue.frozen (.channel c) = false) :
    s.dropEntry (.channel c) = { around s c with queue := s.queue.removeUnsent (.channel c) } := by
  have hclaim : claimRemoved s c = true := by simp [claimRemoved, hs, hf]
  rw [around, probeWithout_of_not_mem (mt h.probes.mp (by simp [hs])), startQueue_of_not_mem (mt h.starts.mp (by simp [hs]))]
  simp only [State.dropEntry, withoutOffer, List.mem_singleton, exists_eq_left, hclaim, true_and]
  split <;> rfl

/-! ### What is done to the channel's slot (R40, R44) -/

/-- The entries `es` are the queue's with the slot of one channel dealt with as at its retirement. -/
structure SlotStep (s : State) (c : ChanNo) (es : List Entry) : Prop where
  others : ∀ o : Owner, o ≠ .channel c → ({ s.queue with entries := es } : TxQueue).entryOf o = s.queue.entryOf o
  owners : es.map Entry.owner
    = (s.queue.entries.map Entry.owner).filter (keepsSlot s [c]) ++ ([c].filter (releasePlaced s)).map Owner.channel
  nodup : (es.map Entry.owner).Nodup

theorem keepsSlot_of_not_removed (h : claimRemoved s c = false) (os : List Owner) : os.filter (keepsSlot s [c]) = os := by
  refine List.filter_eq_self.mpr fun o _ => ?_
  cases o with
  | channel d =>
    by_cases hd : d = c
    · simp [keepsSlot, hd, h]
    · simp [keepsSlot, hd]
  | _ => rfl

/-- The slot keeps its entry, or has its content rewritten. -/
theorem SlotStep.of_owners {es : List Entry} (hn : (s.queue.entries.map Entry.owner).Nodup) (hclaim : claimRemoved s c = false)
    (hplace : releasePlaced s c = false) (howners : es.map Entry.owner = s.queue.entries.map Entry.owner)
    (hothers : ∀ o : Owner, o ≠ .channel c → ({ s.queue with entries := es } : TxQueue).entryOf o = s.queue.entryOf o) :
    SlotStep s c es where
  others := hothers
  owners := by simp [howners, keepsSlot_of_not_removed hclaim, hplace]
  nodup := howners ▸ hn

theorem SlotStep.keep (hn : (s.queue.entries.map Entry.owner).Nodup) (hclaim : claimRemoved s c = false)
    (hplace : releasePlaced s c = false) : SlotStep s c s.queue.entries :=
  .of_owners hn hclaim hplace rfl fun _ _ => rfl

theorem SlotStep.rewrite (hn : (s.queue.entries.map Entry.owner).Nodup) (hclaim : claimRemoved s c = false)
    (hplace : releasePlaced s c = false) (k : Content) : SlotStep s c (s.queue.rewrite (.channel c) k).entries :=
  .of_owners hn hclaim hplace (owners_rewrite _ _ _) fun _ ho => entryOf_rewrite_of_ne ho

theorem SlotStep.place (hn : (s.queue.entries.map Entry.owner).Nodup) (hclaim : claimRemoved s c = false)
    (hplace : releasePlaced s c = true) (hempty : s.queue.entryOf (.channel c) = none) (k : Content) :
    SlotStep s c (s.queue.place (.channel c) k).entries where
  others := fun o ho => by
    have hother := entryOf_place_of_ne (q := s.queue) (k := k) ho
    rwa [place_of_empty hempty] at hother ⊢
  owners := by simp [owners_place hempty, keepsSlot_of_not_removed hclaim, hplace]
  nodup := by
    rw [owners_place hempty, List.nodup_append]
    refine ⟨hn, List.nodup_singleton _, fun o ho p hp => ?_⟩
    obtain ⟨e, he, rfl⟩ := List.mem_map.mp ho
    rw [List.mem_singleton.mp hp]
    exact TxQueue.entryOf_none.mp hempty e he

theorem SlotStep.remove (hn : (s.queue.entries.map Entry.owner).Nodup) (hs : (s.channel c).state = .claiming)
    (hf : s.queue.frozen (.channel c) = false) : SlotStep s c (s.queue.removeUnsent (.channel c)).entries where
  others := fun o ho => entryOf_removeUnsent_of_ne ho
  owners := by
    have hplace : releasePlaced s c = false := by simp [releasePlaced, hs]
    have hkeeps : ∀ o : Owner, decide (o ≠ .channel c) = keepsSlot s [c] o := by
      intro o
      cases o with
      | channel d =>
        by_cases hd : d = c
        · simp [keepsSlot, claimRemoved, hd, hs, hf]
        · simp [keepsSlot, hd]
      | _ => simp [keepsSlot]
    rw [owners_removeUnsent hn hf, List.filter_congr fun o _ => hkeeps o]
    simp [hplace]
  nodup := by
    rw [owners_removeUnsent hn hf]
    exact hn.filter _

/-! ### One channel retired -/

theorem retired_of_eq {es : List Entry} {y : Channel} (ht : t = flagged (withRecord (around s c) c es y) (retireFlags r s c))
    (hslot : SlotStep s c es) (hrecord : RetiredTo r s (withRecord (around s c) c es y) c) : Retired r [c] s t := by
  subst ht
  refine
    { frame := rfl, line := rfl, probe := rfl, starts := rfl, spacing := rfl, latch := rfl
      record := fun d hd => ?_, others := fun d hd => ?_, slots := fun o ho => hslot.others o (ho c (List.mem_singleton_self c))
      owners := hslot.owners, nodup := hslot.nodup, raises := ?_ }
  · rw [List.mem_singleton.mp hd]
    exact hrecord
  · exact channel_withRecord_of_ne (around s c) (mt List.mem_singleton.mpr hd) es y
  · rw [List.flatMap_singleton]
    exact flagged_raises (withRecord (around s c) c es y) _

/-- A channel that leaves service otherwise than by a stopping fault is retired by that, the reason and STOPPED. -/
theorem retired_of_leaveService {es : List Entry} {y : Channel} (hin : (s.channel c).state.inService = true)
    (hcold : ¬ (r = .hot ∧ ((s.channel c).state = .inrush ∨ (s.channel c).state = .run)))
    (hleave : leaveService s c = withRecord (around s c) c es y) (hslot : SlotStep s c es)
    (hrecord : RetiredTo r s (withRecord (around s c) c es { y with lastReason := some r }) c) :
    Retired r [c] s (retireChannel r s c) := by
  refine retired_of_eq ?_ hslot hrecord
  rw [retireChannel, if_pos hin, if_neg hcold, hleave, retireFlags, if_neg hcold, if_pos hin]
  exact retired_flagged (around s c) c es y r []

/-- Retirement leaves a channel that is not in service as it is. -/
theorem ReadyAt.retired_not_inService (h : ReadyAt s c) (hn : (s.queue.entries.map Entry.owner).Nodup)
    (hs : (s.channel c).state.inService = false) : Retired r [c] s (retireChannel r s c) := by
  have haround : around s c = s :=
    h.around_eq (claimRemoved_of_ne fun e => by simp [e, ChState.inService] at hs) (fun e => by simp [e, ChState.inService] at hs)
      fun e => by simp [e, ChState.inService] at hs
  have hflags : retireFlags r s c = [] := by
    unfold retireFlags
    cases hx : (s.channel c).state <;> simp_all [ChState.inService]
  have hplace : releasePlaced s c = false := by
    unfold releasePlaced
    cases hx : (s.channel c).state <;> simp_all [ChState.inService]
  refine retired_of_eq (es := s.queue.entries) (y := s.channel c) ?_
    (.keep hn (claimRemoved_of_ne fun e => by simp [e, ChState.inService] at hs) hplace) ?_
  · rw [haround, withRecord_self, hflags, retireChannel, if_neg (by simp [hs])]
    rfl
  · rw [haround, withRecord_self]
    unfold RetiredTo
    cases hx : (s.channel c).state <;> simp_all [ChState.inService]

/-- Before the CLAIM and between its grant and the start nothing of a channel is pending (R110). -/
theorem ReadyAt.empty_of_state (h : ReadyAt s c) (hs : (s.channel c).state ∈ [ChState.probing, .waiting, .armed, .startWait]) :
    s.queue.entryOf (.channel c) = none := by
  refine h.slot.empty_of_pending ?_
  have hfits := h.fits
  simp only [List.mem_cons, List.not_mem_nil, or_false] at hs
  rcases hs with hs | hs | hs | hs <;> simp only [channelFits, hs] at hfits <;> exact hfits.2.1

theorem ReadyAt.retired_probing (h : ReadyAt s c) (hn : (s.queue.entries.map Entry.owner).Nodup)
    (hs : (s.channel c).state = .probing) : Retired r [c] s (retireChannel r s c) := by
  refine retired_of_leaveService (es := s.queue.entries) (y := { s.channel c with startReq := none, state := .off }) (by rw [hs]; rfl)
    (by simp [hs]) ?_ (.keep hn (claimRemoved_of_ne (by simp [hs])) (by simp [releasePlaced, hs])) ?_
  · simp only [leaveService, hs, h.leaveProbe_eq hs]
    rfl
  · simp only [RetiredTo, hs, channel_withRecord_self]
    exact ⟨trivial, h.empty_of_state (by simp [hs])⟩

theorem ReadyAt.retired_claiming (h : ReadyAt s c) (hn : (s.queue.entries.map Entry.owner).Nodup)
    (hs : (s.channel c).state = .claiming) : Retired r [c] s (retireChannel r s c) := by
  cases hf : s.queue.frozen (.channel c) with
  | true =>
    have haround := h.around_eq (claimRemoved_of_frozen hf) (by simp [hs]) (by simp [hs])
    refine retired_of_leaveService (es := s.queue.entries) (y := { s.channel c with state := .releasing, followUp := true })
      (by rw [hs]; rfl) (by simp [hs]) ?_ (.keep hn (claimRemoved_of_frozen hf) (by simp [releasePlaced, hs])) ?_
    · simp only [leaveService, hs, hf, haround]
      rfl
    · simp only [RetiredTo, hs, hf, channel_withRecord_self]
      exact ⟨trivial, rfl⟩
  | false =>
    refine retired_of_leaveService (es := (s.queue.removeUnsent (.channel c)).entries) (y := { s.channel c with state := .off })
      (by rw [hs]; rfl) (by simp [hs]) ?_ (.remove hn hs hf) ?_
    · simp only [leaveService, hs, hf, h.dropEntry_eq hs hf]
      rfl
    · simp only [RetiredTo, hs, hf, channel_withRecord_self]
      exact ⟨trivial, entryOf_removeUnsent_self hn hf⟩

/-- The states that give a claim or units back by a release placed (R113). -/
theorem retired_of_place {k : Content} {y : Channel} (hn : (s.queue.entries.map Entry.owner).Nodup)
    (hin : (s.channel c).state.inService = true)
    (hcold : ¬ (r = .hot ∧ ((s.channel c).state = .inrush ∨ (s.channel c).state = .run)))
    (hempty : s.queue.entryOf (.channel c) = none) (hclaim : (s.channel c).state ≠ .claiming) (hplace : releasePlaced s c = true)
    (hleave : leaveService s c = ((around s c).place (.channel c) k).setChannel c y)
    (hrecord : ∀ t : State, t.channel c = { y with lastReason := some r } → t.queue.entryOf (.channel c) = some ⟨.channel c, k, 0, false⟩ →
      RetiredTo r s t c) :
    Retired r [c] s (retireChannel r s c) := by
  refine retired_of_leaveService (es := (s.queue.place (.channel c) k).entries) (y := y) hin hcold ?_
    (.place hn (claimRemoved_of_ne hclaim) hplace hempty k) (hrecord _ (channel_withRecord_self _ _ _ _) ?_)
  · rw [hleave, State.place, place_of_empty (q := (around s c).queue) hempty, place_of_empty hempty]
    rfl
  · have hslot := entryOf_place_self (k := k) hempty
    rw [place_of_empty hempty] at hslot ⊢
    exact hslot

theorem ReadyAt.retired_waiting (h : ReadyAt s c) (hn : (s.queue.entries.map Entry.owner).Nodup)
    (hs : (s.channel c).state = .waiting) : Retired r [c] s (retireChannel r s c) := by
  refine retired_of_place (k := .release c (s.cfg c).cls 0 .withdraw) (y := { s.channel c with state := .releasing }) hn
    (by rw [hs]; rfl) (by simp [hs]) (h.empty_of_state (by simp [hs])) (by simp [hs]) (by simp [releasePlaced, hs]) ?_
    fun t hchannel hslot => ?_
  · rw [h.around_eq (claimRemoved_of_ne (by simp [hs])) (by simp [hs]) (by simp [hs])]
    simp only [leaveService, hs]
    rfl
  · simp only [RetiredTo, hs]
    exact ⟨hchannel, hslot⟩

theorem ReadyAt.retired_armed (h : ReadyAt s c) (hn : (s.queue.entries.map Entry.owner).Nodup)
    (hs : (s.channel c).state = .armed) : Retired r [c] s (retireChannel r s c) := by
  refine retired_of_place (k := fullOf s c) (y := { s.channel c with state := .releasing }) hn
    (by rw [hs]; rfl) (by simp [hs]) (h.empty_of_state (by simp [hs])) (by simp [hs]) (by simp [releasePlaced, hs]) ?_
    fun t hchannel hslot => ?_
  · rw [h.around_eq (claimRemoved_of_ne (by simp [hs])) (by simp [hs]) (by simp [hs])]
    simp only [leaveService, hs]
    rfl
  · simp only [RetiredTo, hs]
    exact ⟨hchannel, hslot⟩

theorem ReadyAt.retired_startWait (h : ReadyAt s c) (hn : (s.queue.entries.map Entry.owner).Nodup)
    (hs : (s.channel c).state = .startWait) : Retired r [c] s (retireChannel r s c) := by
  refine retired_of_place (k := fullOf s c) (y := { s.channel c with state := .releasing }) hn
    (by rw [hs]; rfl) (by simp [hs]) (h.empty_of_state (by simp [hs])) (by simp [hs]) (by simp [releasePlaced, hs]) ?_
    fun t hchannel hslot => ?_
  · simp only [leaveService, hs, h.leaveStartQueue_eq hs]
    rfl
  · simp only [RetiredTo, hs]
    exact ⟨hchannel, hslot⟩

/-! ### A driving channel retired -/

theorem ReadyAt.followUp_of_driving (h : ReadyAt s c) (hs : driving s c) : (s.channel c).followUp = false := by
  have hfits := h.fits
  rcases hs with hs | hs <;> simp only [channelFits, hs] at hfits
  · exact hfits.2.2
  · exact hfits.1

theorem releasePlaced_of_driving (hs : driving s c) :
    releasePlaced s c = (givesBack s c && (s.queue.entryOf (.channel c)).isNone) := by
  rcases hs with hs | hs <;> simp [releasePlaced, hs]

theorem claimRemoved_of_driving (hs : driving s c) : claimRemoved s c = false := by
  rcases hs with hs | hs <;> simp [claimRemoved, hs]

theorem slotStep_stopped (hn : (s.queue.entries.map Entry.owner).Nodup) (hs : driving s c) : SlotStep s c (stoppedEntries s c) := by
  have hclaim := claimRemoved_of_driving hs
  have hplace := releasePlaced_of_driving hs
  unfold stoppedEntries
  cases he : s.queue.entryOf (.channel c) with
  | none =>
    rw [he, Option.isNone_none, Bool.and_true] at hplace
    dsimp only
    cases hg : givesBack s c <;> rw [hg] at hplace
    · exact .keep hn hclaim hplace
    · exact .place hn hclaim hplace he _
  | some e =>
    rw [he, Option.isNone_some, Bool.and_false] at hplace
    dsimp only
    split
    · exact .keep hn hclaim hplace
    · exact .rewrite hn hclaim hplace _

/-- The slot of a driving channel that has stopped, as R113 has it. -/
theorem entryOf_stoppedEntries (s : State) (c : ChanNo) :
    ({ s.queue with entries := stoppedEntries s c } : TxQueue).entryOf (.channel c) = match s.queue.entryOf (.channel c) with
      | some e => some (if e.onLine then e else { e with content := fullOf s c })
      | none => if givesBack s c then some ⟨.channel c, fullOf s c, 0, false⟩ else none := by
  unfold stoppedEntries
  cases he : s.queue.entryOf (.channel c) with
  | none =>
    dsimp only
    cases givesBack s c
    · exact he
    · have hslot := entryOf_place_self (k := fullOf s c) he
      rw [place_of_empty he] at hslot ⊢
      exact hslot
  | some e =>
    dsimp only
    by_cases hon : e.onLine = true
    · rw [if_pos hon, if_pos hon]
      exact he
    · rw [if_neg hon, if_neg hon]
      exact entryOf_rewrite_self he (Bool.eq_false_of_not_eq_true hon)

/-- The record of a driving channel once retired. -/
def retiredRecord (r : Reason) (s : State) (c : ChanNo) : Channel :=
  { s.channel c with
    state := if r = .hot then .faulted else if givesBack s c then .releasing else .off
    inrushTimer := none, lastReason := some r, followUp := s.queue.frozen (.channel c)
    fault := if r = .hot then some (stoppingRecord s c .thermal (s.channel c).lastCurrent) else (s.channel c).fault }

theorem retiredRecord_hot (s : State) (c : ChanNo) :
    retiredRecord .hot s c
      = { stoppedRecord s c .faulted .faulted with
          lastReason := some .hot, fault := some (stoppingRecord s c .thermal (s.channel c).lastCurrent) } := by
  simp only [retiredRecord, stoppedRecord, ite_self, ↓reduceIte]

theorem retiredRecord_of_ne (hr : r ≠ .hot) (s : State) (c : ChanNo) :
    retiredRecord r s c = { stoppedRecord s c .releasing .off with lastReason := some r } := by
  simp only [retiredRecord, stoppedRecord, if_neg hr]

theorem retiredTo_of_driving (hs : driving s c) : RetiredTo r s (withRecord s c (stoppedEntries s c) (retiredRecord r s c)) c := by
  have hslot := entryOf_stoppedEntries s c
  rcases hs with hs | hs <;> simp only [RetiredTo, hs, channel_withRecord_self] <;> exact ⟨rfl, hslot⟩

theorem ReadyAt.retired_driving (h : ReadyAt s c) (hn : (s.queue.entries.map Entry.owner).Nodup) (hs : driving s c) :
    Retired r [c] s (retireChannel r s c) := by
  have hin : (s.channel c).state.inService = true := by rcases hs with hs | hs <;> rw [hs] <;> rfl
  have haround : around s c = s := by
    refine h.around_eq (claimRemoved_of_driving hs) ?_ ?_ <;> rcases hs with hs | hs <;> simp [hs]
  have hstop := stopDriving_eq h.slot (h.followUp_of_driving hs)
  have hrecord : RetiredTo r s (withRecord (around s c) c (stoppedEntries s c) (retiredRecord r s c)) c := by
    rw [haround]
    exact retiredTo_of_driving hs
  by_cases hr : r = .hot
  · subst hr
    refine retired_of_eq ?_ (slotStep_stopped hn hs) hrecord
    rw [haround, retireChannel, if_pos hin, if_pos ⟨rfl, hs⟩, hstop, writeRecord_stopping (x := stoppedRecord s c _ _) (h.fault hs),
      retired_flagged, retireFlags, if_pos ⟨rfl, hs⟩, if_pos hin, retiredRecord_hot]
    rfl
  · rw [retiredRecord_of_ne hr] at hrecord
    refine retired_of_leaveService hin (fun hx => hr hx.1) ?_ (slotStep_stopped hn hs) hrecord
    rw [haround, ← hstop]
    rcases hs with hs | hs <;> simp only [leaveService, hs]

/-- One channel is retired as R127 has it, whatever its state. -/
theorem ReadyAt.retired (h : ReadyAt s c) (hn : (s.queue.entries.map Entry.owner).Nodup) (r : Reason) :
    Retired r [c] s (retireChannel r s c) := by
  cases hs : (s.channel c).state with
  | disabled | off | releasing | faulted => exact h.retired_not_inService hn (by rw [hs]; rfl)
  | probing => exact h.retired_probing hn hs
  | claiming => exact h.retired_claiming hn hs
  | waiting => exact h.retired_waiting hn hs
  | armed => exact h.retired_armed hn hs
  | startWait => exact h.retired_startWait hn hs
  | inrush => exact h.retired_driving hn (.inl hs)
  | run => exact h.retired_driving hn (.inr hs)

end Sys2Proof.Machine
end

section
/-! Retirement with reason HOT or SUPPLY of the six channels (spec/06_output_channels.md R127), one after another, and the entries to
SHUTDOWN and LOCKOUT (spec/08_monitors.md R147 to R151). -/

namespace Sys2Proof.Machine

open Sys2Proof.Safety Sys2Proof.Obl

variable {r : Reason} {s t u : State} {c d : ChanNo} {l : List ChanNo}

/-! ### A channel that another's retirement leaves alone -/

/-- Two states have the same record, slot, configuration and clock of one channel. -/
structure AgreesAt (s u : State) (d : ChanNo) : Prop where
  channel : u.channel d = s.channel d
  slot : u.queue.entryOf (.channel d) = s.queue.entryOf (.channel d)
  settings : u.settings = s.settings
  monitor : u.monitor = s.monitor

namespace AgreesAt

theorem frozen (h : AgreesAt s u d) : u.queue.frozen (.channel d) = s.queue.frozen (.channel d) := by
  simp only [TxQueue.frozen, h.slot]

theorem pendingFrame (h : AgreesAt s u d) : u.pendingFrame d = s.pendingFrame d := by
  simp only [State.pendingFrame, h.slot]

theorem cfg (h : AgreesAt s u d) : u.cfg d = s.cfg d := by simp only [State.cfg, h.settings]

theorem claimRemoved (h : AgreesAt s u d) : claimRemoved u d = claimRemoved s d := by
  simp only [Obl.claimRemoved, h.channel, h.frozen]

theorem givesBack (h : AgreesAt s u d) : givesBack u d = givesBack s d := by
  simp only [Obl.givesBack, h.channel, h.pendingFrame]

theorem releasePlaced (h : AgreesAt s u d) : releasePlaced u d = releasePlaced s d := by
  simp only [Obl.releasePlaced, h.channel, h.slot, h.givesBack]

theorem retireFlags (h : AgreesAt s u d) : retireFlags r u d = retireFlags r s d := by
  simp only [Machine.retireFlags, h.channel]

theorem channelFits (h : AgreesAt s u d) : channelFits u d ↔ channelFits s d := by
  simp only [Safety.channelFits, h.channel, h.pendingFrame, h.frozen, h.cfg]

/-- What a channel becomes depends on its own part of the state before. -/
theorem retiredTo (h : AgreesAt s u d) (ht : RetiredTo r u t d) : RetiredTo r s t d := by
  simpa only [RetiredTo, stoppingRecord, h.channel, h.slot, h.frozen, h.givesBack, h.cfg, h.monitor] using ht

/-- And on its own part of the state after. -/
theorem retiredTo_after (h : AgreesAt t u d) (ht : RetiredTo r s t d) : RetiredTo r s u d := by
  simpa only [RetiredTo, h.channel, h.slot] using ht

end AgreesAt

theorem Retired.agreesAt (h : Retired r l s u) (hd : d ∉ l) : AgreesAt s u d where
  channel := h.others d hd
  slot := h.slots _ fun c hc e => hd (by injection e with e; exact e ▸ hc)
  settings := by rw [h.frame]
  monitor := by rw [h.frame]

theorem ReadyAt.of_retired (h : ReadyAt s d) (hu : Retired r l s u) (hd : d ∉ l) : ReadyAt u d := by
  have hagrees := hu.agreesAt hd
  refine ⟨hagrees.channelFits.mpr h.fits, ?_, ?_, ?_, ?_⟩
  · rw [SlotOwned, hagrees.slot]
    exact h.slot
  · rw [driving, hagrees.channel]
    exact h.fault
  · rw [hu.starts, hagrees.channel, ← h.starts]
    simp [hd]
  · rw [hu.probe, hagrees.channel, ← h.probes]
    simp [probeWithout, hd]

/-! ### One channel and then the others -/

theorem filter_notMem_cons (q : List ChanNo) :
    ((q.filter fun d => decide (d ∉ [c])).filter fun d => decide (d ∉ l)) = q.filter fun d => decide (d ∉ c :: l) := by
  rw [List.filter_filter]
  refine List.filter_congr fun d _ => ?_
  by_cases hd : d = c <;> simp [hd]

theorem probeWithout_cons (p : Probe) : probeWithout l (probeWithout [c] p) = probeWithout (c :: l) p := by
  obtain ⟨q, reference, load⟩ := p
  simp only [probeWithout, filter_notMem_cons, Probe.mk.injEq, true_and]
  cases q with
  | nil => simp
  | cons d q =>
    by_cases hd : d = c
    · simp [hd]
    · simp [hd]

theorem withoutOffer_cons (hline : u.line = withoutOffer s [c]) (hagrees : ∀ d ∈ l, AgreesAt s u d) :
    withoutOffer u l = withoutOffer s (c :: l) := by
  have hclaims : ∀ x : Option Carrier, (∃ d ∈ l, claimRemoved u d = true ∧ x = some (.entry (.channel d)))
      ↔ ∃ d ∈ l, claimRemoved s d = true ∧ x = some (.entry (.channel d)) :=
    fun x => exists_congr fun d => and_congr_right fun hd => by rw [(hagrees d hd).claimRemoved]
  simp only [withoutOffer, List.mem_singleton, exists_eq_left] at hline
  by_cases hgone : s.line.state = .arbitrating ∧ claimRemoved s c = true ∧ s.line.offer = some (.entry (.channel c))
  · rw [if_pos hgone] at hline
    rw [withoutOffer, hline, withoutOffer, if_neg (by simp), if_pos ⟨hgone.1, c, List.mem_cons_self, hgone.2⟩]
  · rw [if_neg hgone] at hline
    simp only [withoutOffer, hline, hclaims, List.mem_cons, exists_eq_or_imp]
    refine if_congr (and_congr_right fun harb => ?_) rfl rfl
    have hno : ¬ (claimRemoved s c = true ∧ s.line.offer = some (.entry (.channel c))) := fun hx => hgone ⟨harb, hx⟩
    simp only [hno, false_or]

theorem keepsSlot_cons (hc : c ∉ l) (hagrees : ∀ d ∈ l, AgreesAt s u d) (os : List Owner) :
    ((os.filter (keepsSlot s [c])).filter (keepsSlot u l)) = os.filter (keepsSlot s (c :: l)) := by
  rw [List.filter_filter]
  refine List.filter_congr fun o _ => ?_
  cases o with
  | channel d =>
    by_cases hd : d ∈ l
    · have hne : d ≠ c := fun e => hc (e ▸ hd)
      simp [keepsSlot, hd, hne, (hagrees d hd).claimRemoved]
    · simp [keepsSlot, hd]
  | _ => rfl

theorem keepsSlot_placed (hc : c ∉ l) (p : ChanNo → Bool) :
    (([c].filter p).map Owner.channel).filter (keepsSlot u l) = ([c].filter p).map Owner.channel := by
  refine List.filter_eq_self.mpr fun o ho => ?_
  obtain ⟨d, hd, rfl⟩ := List.mem_map.mp ho
  have hdc : d = c := List.mem_singleton.mp (List.mem_filter.mp hd).1
  simp [keepsSlot, hdc, hc]

theorem raises_append {m n : List (Fin 27)} (h : Raises s u m) (h' : Raises u t n) : Raises s t (m ++ n) := by
  intro i
  rw [h' i, h i, Bool.or_assoc]
  simp

theorem Retired.cons (h : Retired r [c] s u) (h' : Retired r l u t) (hc : c ∉ l) : Retired r (c :: l) s t := by
  have hagrees : ∀ d ∈ l, AgreesAt s u d := fun d hd => h.agreesAt fun hm => hc (List.mem_singleton.mp hm ▸ hd)
  have hafter : AgreesAt u t c := h'.agreesAt hc
  refine
    { frame := ?_, line := h'.line.trans (withoutOffer_cons h.line hagrees)
      probe := by rw [h'.probe, h.probe, probeWithout_cons], starts := by rw [h'.starts, h.starts, filter_notMem_cons]
      spacing := h'.spacing.trans h.spacing, latch := h'.latch.trans h.latch, record := fun d hd => ?_, others := fun d hd => ?_
      slots := fun o ho => ?_, owners := ?_, nodup := h'.nodup, raises := ?_ }
  · rw [h'.frame, h.frame]
  · rcases List.mem_cons.mp hd with rfl | hd
    · exact hafter.retiredTo_after (h.record d (List.mem_singleton_self d))
    · exact (hagrees d hd).retiredTo (h'.record d hd)
  · rw [List.mem_cons, not_or] at hd
    rw [h'.others d hd.2, h.others d (by simpa using hd.1)]
  · rw [h'.slots o fun d hd => ho d (List.mem_cons_of_mem c hd),
      h.slots o fun d hd => ho d (List.mem_singleton.mp hd ▸ List.mem_cons_self)]
  · have hreleases : l.filter (releasePlaced u) = l.filter (releasePlaced s) :=
      List.filter_congr fun d hd => (hagrees d hd).releasePlaced
    rw [h'.owners, h.owners, List.filter_append, keepsSlot_cons hc hagrees, keepsSlot_placed hc, hreleases, List.append_assoc,
      ← List.map_append, ← List.filter_append, List.singleton_append]
  · have hflags : l.flatMap (retireFlags r u) = l.flatMap (retireFlags r s) :=
      List.flatMap_congr fun d hd => (hagrees d hd).retireFlags
    have hboth := raises_append h.raises h'.raises
    rwa [hflags, ← List.flatMap_append, List.singleton_append] at hboth

theorem retired_nil (hn : (s.queue.entries.map Entry.owner).Nodup) : Retired r [] s s where
  frame := rfl
  line := by simp [withoutOffer]
  probe := by simp [probeWithout]
  starts := by simp
  spacing := rfl
  latch := rfl
  record := fun c hc => absurd hc (by simp)
  others := fun _ _ => rfl
  slots := fun _ _ => rfl
  owners := by
    have hkeeps : s.queue.entries.map Entry.owner = (s.queue.entries.map Entry.owner).filter (keepsSlot s []) :=
      (List.filter_eq_self.mpr fun o _ => by cases o <;> simp [keepsSlot]).symm
    simpa using hkeeps
  nodup := hn
  raises := by simp [Raises]

/-- Channels retired one after another are retired as R127 has each. -/
theorem foldl_retired (hl : l.Nodup) (hn : (s.queue.entries.map Entry.owner).Nodup) (h : ∀ c ∈ l, ReadyAt s c) (r : Reason) :
    Retired r l s (l.foldl (retireChannel r) s) := by
  induction l generalizing s with
  | nil => exact retired_nil hn
  | cons c l ih =>
    obtain ⟨hc, hl⟩ := List.nodup_cons.mp hl
    have hfirst := (h c List.mem_cons_self).retired hn r
    refine hfirst.cons (ih hl hfirst.nodup fun d hd => ?_) hc
    exact (h d (List.mem_cons_of_mem c hd)).of_retired hfirst fun hm => hc (List.mem_singleton.mp hm ▸ hd)

/-! ### The six channels -/

theorem readyAt_of_channelsInOrder (h : ChannelsInOrder s) (c : ChanNo) : ReadyAt s c := by
  obtain ⟨⟨hfits, hstarts, hprobes⟩, hqueue, hfaults⟩ := h
  refine ⟨hfits c, fun e he => ?_, fun hs => ?_, hstarts.2 c, hprobes.2 c⟩
  · obtain ⟨ho, hm⟩ := TxQueue.entryOf_some he
    rw [(hqueue.slots.2.1 e hm).1, ho]
  · refine Bool.eq_false_of_not_eq_true (mt (hfaults c).mpr ?_)
    rcases hs with hs | hs <;> simp [hs]

theorem retire_retired (h : ChannelsInOrder s) (r : Reason) : Retired r allChannels s (retire s r) :=
  foldl_retired (by decide) h.2.1.slots.1 (fun c _ => readyAt_of_channelsInOrder h c) r

theorem probeWithout_all (p : Probe) : probeWithout allChannels p = if p.queue = [] then p else ⟨[], 0, 0⟩ := by
  obtain ⟨q, reference, load⟩ := p
  cases q <;> simp [probeWithout, mem_allChannels]

theorem mem_retireFlags {i : Fin 27} :
    i ∈ retireFlags r s c ↔ (r = .hot ∧ driving s c ∧ i = faultFlag c) ∨ ((s.channel c).state.inService = true ∧ i = stoppedFlag c) := by
  rw [retireFlags, List.mem_append, List.mem_ite_nil_right, List.mem_ite_nil_right, List.mem_singleton, List.mem_singleton, and_assoc]
  rfl

theorem mem_stoppedOf {hit : ChanNo → Bool} {i : Fin 27} : i ∈ stoppedOf hit ↔ ∃ c : ChanNo, hit c = true ∧ i = stoppedFlag c := by
  simp only [stoppedOf, List.mem_map, List.mem_filter, mem_allChannels, true_and, eq_comm (a := i)]

theorem mem_faultFlags {i : Fin 27} :
    (i ∈ if r = .hot then
        (allChannels.filter fun c => (s.channel c).state = .inrush || (s.channel c).state = .run).map faultFlag else [])
      ↔ ∃ c : ChanNo, r = .hot ∧ driving s c ∧ i = faultFlag c := by
  simp only [List.mem_ite_nil_right, List.mem_map, List.mem_filter, mem_allChannels, true_and, Bool.or_eq_true, decide_eq_true_eq,
    eq_comm (a := i), exists_and_left, driving]

/-- Retirement of the six channels, as R127 has it, with the event of the state entered. -/
theorem Retired.retires {m : Monitor} {flag : Fin 27} (h : Retired r allChannels s t) :
    Retires r s { flagged t [flag] with monitor := m } flag := by
  refine ⟨?_, fun c => h.record c (mem_allChannels c), ?_, h.spacing, h.latch,
    fun o ho => h.slots o fun c _ => ho c, ?_, ?_⟩
  · have hline : t.line = if s.line.state = .arbitrating
        ∧ (∃ c : ChanNo, claimRemoved s c = true ∧ s.line.offer = some (.entry (.channel c))) then
          { s.line with offer := none } else s.line := by
      rw [h.line, withoutOffer]
      refine if_congr (and_congr_right fun _ => exists_congr fun c => ?_) rfl rfl
      simp [mem_allChannels]
    rw [← hline, ← probeWithout_all, ← h.probe, h.frame]
    rfl
  · change t.chan.startQueue = []
    simp [h.starts, mem_allChannels]
  · change t.queue.entries.map Entry.owner = _
    rw [h.owners]
    congr 1
    refine List.filter_congr fun o _ => ?_
    cases o <;> simp [keepsSlot, mem_allChannels]
  · refine raises_congr (raises_append h.raises (flagged_raises t [flag])) fun i => ?_
    simp only [List.mem_append, List.mem_flatMap, mem_retireFlags, mem_allChannels, true_and, exists_or, List.mem_cons,
      List.not_mem_nil, or_false, mem_stoppedOf, mem_faultFlags]
    rw [or_assoc, or_comm, or_comm (b := i = flag)]

theorem monitor_retire (h : ChannelsInOrder s) (r : Reason) : (retire s r).monitor = s.monitor := by
  rw [(retire_retired h r).frame]

/-! ### SHUTDOWN and LOCKOUT (R148, R151) -/

theorem enterShutdown_retires (h : ChannelsInOrder s) : Retires .hot s (enterShutdown s) 2 := by
  rw [enterShutdown, setTemperature_eq]
  exact (retire_retired h .hot).retires

theorem monitor_enterShutdown (h : ChannelsInOrder s) : (enterShutdown s).monitor = { s.monitor with temperature := .shutdown } := by
  rw [enterShutdown, setTemperature_eq, monitor_retire h]

theorem lockout_retires (h : ChannelsInOrder s) : Retires .supply s (setSupply (retire s .supply) .lockout) 3 := by
  rw [setSupply_eq]
  exact (retire_retired h .supply).retires

theorem monitor_lockout (h : ChannelsInOrder s) :
    (setSupply (retire s .supply) .lockout).monitor = { s.monitor with supply := .lockout } := by
  rw [setSupply_eq, monitor_retire h]

/-- Settles O37: entry to SHUTDOWN retires the channels one by one, each as the table of R127 has it. -/
theorem temperatureStatesChange : Obligations.TemperatureStatesChange := by
  intro die s
  refine ⟨thermalWarning_of_normal, thermalWarning_of_warning, shutdownExit_of_shutdown, fun htemp hdie hs => ?_, thermalWarning_idle⟩
  have hmonitor := monitor_enterShutdown hs
  exact ⟨enterShutdown s, thermalShutdown_of_hot htemp hdie, thermalWarning_of_hot htemp hdie, enterShutdown_retires hs, hmonitor,
    faultOutput_iff.mpr (.inr (congrArg Monitor.temperature hmonitor))⟩

theorem supplyStatesChange : SupplyStatesChange := by
  intro vs s
  refine ⟨fun hsupply hvs hs => ?_, lockoutExit_of_high, sagEpisodeClose_of_high⟩
  exact ⟨_, lockoutEntry_of_low hsupply hvs, lockout_retires hs, monitor_lockout hs⟩

/-- Settles O57: entry to LOCKOUT retires the channels as SHUTDOWN does, and a sag episode asks for one raise by the shed slot. -/
theorem supplyAndSagStates : Obligations.SupplyAndSagStates := ⟨supplyStatesChange, sagOpensAndAsksRaise⟩

end Sys2Proof.Machine
end

section
/-! Host requests that meet the transmit queue (spec/03_the_transmit_queue.md R50, R52, R54; spec/10_host_requests.md R176 to R180):
GO, SET_SHED, the stop requests with the STOP input, and the notes staged and sent. -/

namespace Sys2Proof.Machine

open Sys2Proof.Safety Sys2Proof.Obl

variable {s : State}

/-! ### What the queue requests share -/

theorem indexFin_of_eq {n : Nat} {b : Byte} {i : Fin n} (h : b.toNat = i.val) : indexFin n b = some i := by
  rw [indexFin, dif_pos (h ▸ i.isLt)]
  exact congrArg some (Fin.ext h)

theorem indexFin_of_le {n : Nat} {b : Byte} (h : n ≤ b.toNat) : indexFin n b = none := by
  rw [indexFin, dif_neg (not_lt.mpr h)]

theorem isJoined_of_joined (hj : s.member.station = .joined) : ¬ s.isJoined = false := by simp [State.isJoined, hj]

theorem not_isJoined (hj : s.member.station ≠ .joined) : s.isJoined = false := by simp [State.isJoined, hj]

/-- A taken request whose effect is on the queue alone. -/
theorem accept_withQueue (s : State) (q : TxQueue) : accept s (s.withQueue q) = .next { replied s .accepted 0 with queue := q } :=
  congrArg _ (answered_eq s _ .accepted 0)

/-- A taken request that fills an empty slot. -/
theorem accept_place {o : Owner} (h : ∀ e ∈ s.queue.entries, e.owner ≠ o) (k : Content) :
    accept s (s.place o k) = .next { replied s .accepted 0 with queue := placed s.queue o k } := by
  rw [State.place, place_of_empty (TxQueue.entryOf_none.mpr h)]
  exact accept_withQueue s _

theorem entryOf_isSome {q : TxQueue} {o : Owner} (h : ∃ e ∈ q.entries, e.owner = o) : (q.entryOf o).isSome = true := by
  obtain ⟨e, he, ho⟩ := h
  exact Option.isSome_iff_ne_none.mpr fun hnone => TxQueue.entryOf_none.mp hnone e he ho

theorem entryOf_not_isSome {q : TxQueue} {o : Owner} (h : ∀ e ∈ q.entries, e.owner ≠ o) : ¬ (q.entryOf o).isSome = true := by
  simp [TxQueue.entryOf_none.mpr h]

/-! ### GO (R54, R176) -/

theorem execGo_of_index {index : Byte} {g : GroupNo} (hc : s.port.awaitCsn = false) (hg : index.toNat = g.val) (hpos : 1 ≤ g.val) :
    execGo index s =
      if s.isJoined = false then refuse s .state
      else if (s.queue.entryOf .go).isSome then refuse s .busy
      else accept s (s.place .go (.go g)) := by
  have hne : g ≠ 0 := fun h => by simp [h] at hpos
  simp only [execGo, request_counted hc, indexFin_of_eq hg, if_neg hne]

theorem execGo_out_of_range {index : Byte} (hc : s.port.awaitCsn = false) (h : index.toNat = 0 ∨ 15 < index.toNat) :
    execGo index s = refuse s .range := by
  rcases h with h | h
  · simp only [execGo, request_counted hc, indexFin_of_eq (i := (0 : GroupNo)) h, if_pos]
  · simp only [execGo, request_counted hc, indexFin_of_le h]

theorem goPlacesEntry : GoPlacesEntry := by
  refine fun index s hc => ⟨fun hrange => (execGo_out_of_range hc hrange).trans (refuse_replied s _), fun g hg hpos => ?_⟩
  have hexec := execGo_of_index hc hg hpos
  refine ⟨fun hj => hexec.trans ?_, fun hj hheld => hexec.trans ?_, fun hj hempty => hexec.trans ?_⟩
  · rw [if_pos (not_isJoined hj), refuse_replied]
  · rw [if_neg (isJoined_of_joined hj), if_pos (entryOf_isSome hheld), refuse_replied]
  · rw [if_neg (isJoined_of_joined hj), if_neg (entryOf_not_isSome hempty), accept_place hempty]

/-! ### SET_SHED (R52, R177) -/

theorem execSetShed_of_busy {index : Byte} {l : ShedLevel} (hc : s.port.awaitCsn = false) (hl : index.toNat = l.val)
    (hj : s.member.station = .joined) (hbusy : requestShed s l = none) : execSetShed index s = refuse s .busy := by
  simp only [execSetShed, request_counted hc, indexFin_of_eq hl, if_neg (isJoined_of_joined hj), hbusy]

theorem execSetShed_of_taken {t : State} {index : Byte} {l : ShedLevel} (hc : s.port.awaitCsn = false) (hl : index.toNat = l.val)
    (hj : s.member.station = .joined) (htaken : requestShed s l = some t) : execSetShed index s = accept s t := by
  simp only [execSetShed, request_counted hc, indexFin_of_eq hl, if_neg (isJoined_of_joined hj), htaken]

theorem setShedMeetsSlot : SetShedMeetsSlot := by
  refine fun index s hc =>
    ⟨fun hrange => ?_, fun l hl => ⟨fun hj => ?_, fun hj hslots => ⟨fun hempty => ?_, fun e he ho => ?_⟩⟩⟩
  · have hexec : execSetShed index s = refuse s .range := by simp only [execSetShed, request_counted hc, indexFin_of_le hrange]
    exact hexec.trans (refuse_replied s _)
  · have hexec : execSetShed index s = refuse s .state := by
      simp only [execSetShed, request_counted hc, indexFin_of_eq hl, if_pos (not_isJoined hj)]
    exact hexec.trans (refuse_replied s _)
  · have htaken : requestShed s l = some (s.place .shed (.shed .set l)) := by
      simp only [requestShed, TxQueue.entryOf_none.mpr hempty]
    exact (execSetShed_of_taken hc hl hj htaken).trans (accept_place hempty _)
  · have hslot : s.queue.entryOf .shed = some e := (entryOf_eq_some hslots.1).mpr ⟨he, ho⟩
    refine ⟨fun hon => ?_, fun hon => ?_⟩
    · have htaken : requestShed s l = some (s.rewrite .shed (.shed .set l)) := by
        simp only [requestShed, hslot, hon, Bool.false_eq_true, ↓reduceIte]
      have hrewrite := rewrite_eq_rewritten hslots.1 he hon (.shed .set l)
      rw [ho] at hrewrite
      rw [← hrewrite]
      exact (execSetShed_of_taken hc hl hj htaken).trans (accept_withQueue s _)
    · have hbusy : requestShed s l = none := by simp only [requestShed, hslot, if_pos hon]
      exact (execSetShed_of_busy hc hl hj hbusy).trans (refuse_replied s _)

/-- Settles O49: each request by its checks in order, and the shed slot by what it holds. -/
theorem goAndShedRequestsPlaced : Obligations.GoAndShedRequestsPlaced := ⟨goPlacesEntry, setShedMeetsSlot⟩

/-! ### Stop requests (R50, R123, R178, R179) -/

theorem requestStopAll_eq (q : TxQueue) : requestStopAll q = stopAllMeets q := by
  unfold requestStopAll stopAllMeets
  cases q.stop with
  | none => rfl
  | some a =>
    obtain ⟨target, attempts, onLine⟩ := a
    cases target with
    | none => rfl
    | some n => cases onLine <;> rfl

theorem requestStopStation_eq (q : TxQueue) (n : StationNo) : requestStopStation q n = stopStationMeets q n := by
  unfold requestStopStation stopStationMeets
  cases q.stop with
  | none => rfl
  | some a =>
    obtain ⟨target, attempts, onLine⟩ := a
    cases target <;> rfl

theorem setLatch_eq (s : State) :
    setLatch s = { s with chan := { s.chan with latch := true }, queue := stopAllMeets s.queue } := by
  rw [← requestStopAll_eq]
  rfl

theorem execStopInputAssertion_edge (h : s.stopInput = false) :
    execStopInputAssertion s
      = .next (if s.isJoined then setLatch { s with stopInput := true } else { s with stopInput := true }) := by
  rw [execStopInputAssertion, if_neg (by simp [h])]
  rfl

theorem stopRequestsForAll : StopRequestsForAll := by
  refine fun s => ⟨fun hc hj => ?_, fun hc hj => ?_, fun hin hj => ?_, fun hin hj => ?_, fun hin => ?_, rfl⟩
  · change execPoolStop s = _
    rw [execPoolStop, request_counted hc, if_pos (not_isJoined hj), refuse_replied]
  · change execPoolStop s = _
    rw [execPoolStop, request_counted hc, if_neg (isJoined_of_joined hj), setLatch_eq]
    exact congrArg _ (answered_eq s _ .accepted 0)
  · change execStopInputAssertion s = _
    have hjoined : s.isJoined = true := decide_eq_true hj
    rw [execStopInputAssertion_edge hin, if_pos hjoined, setLatch_eq]
  · change execStopInputAssertion s = _
    rw [execStopInputAssertion_edge hin, if_neg (by simp [not_isJoined hj])]
  · change execStopInputAssertion s = _
    rw [execStopInputAssertion, if_pos hin]

theorem stationStopMeetsAction : StationStopMeetsAction := by
  refine fun index s hc => ⟨fun hrange => ?_, fun n hn => ⟨fun hj => ?_, fun hj hbusy => ?_, fun q hj htaken => ?_⟩⟩
  · have hexec : execStationStop index s = refuse s .range := by
      simp only [execStationStop, request_counted hc, indexFin_of_le hrange]
    exact hexec.trans (refuse_replied s _)
  · have hexec : execStationStop index s = refuse s .state := by
      simp only [execStationStop, request_counted hc, indexFin_of_eq hn, if_pos (not_isJoined hj)]
    exact hexec.trans (refuse_replied s _)
  · rw [← requestStopStation_eq] at hbusy
    have hexec : execStationStop index s = refuse s .busy := by
      simp only [execStationStop, request_counted hc, indexFin_of_eq hn, if_neg (isJoined_of_joined hj), hbusy]
    exact hexec.trans (refuse_replied s _)
  · rw [← requestStopStation_eq] at htaken
    have hexec : execStationStop index s = accept s (s.withQueue q) := by
      simp only [execStationStop, request_counted hc, indexFin_of_eq hn, if_neg (isJoined_of_joined hj), htaken]
    exact hexec.trans (accept_withQueue s q)

/-- Settles O50: R50's table at each request, and the edges of the STOP input. -/
theorem stopRequestsMeetAction : Obligations.StopRequestsMeetAction := ⟨stopRequestsForAll, stationStopMeetsAction⟩

/-! ### Notes (R54, R167, R180) -/

theorem noteTarget_targetByte (t : Option StationNo) : noteTarget (targetByte t) = some t := by
  cases t with
  | none => rfl
  | some n =>
    have hn : (byteOf n.val).toNat = n.val := by simp [byteOf]; omega
    have hne : ¬ (byteOf n.val).toNat = 0xFF := by omega
    rw [targetByte, noteTarget, if_neg hne, indexFin_of_eq hn, Option.map_some]

theorem noteTarget_out_of_range {b : Byte} (h : 31 < b.toNat) (hall : b.toNat ≠ 255) : noteTarget b = none := by
  rw [noteTarget, if_neg hall, indexFin_of_le h, Option.map_none]

theorem execStageNoteByte_out_of_range {index : Byte} {value : BitVec 16} (hc : s.port.awaitCsn = false)
    (h : 15 < index.toNat ∨ 255 < value.toNat) : execStageNoteByte index value s = refuse s .range := by
  rw [execStageNoteByte, request_counted hc]
  rcases h with h | h
  · rw [indexFin_of_le h]
  · cases indexFin 16 index with
    | none => rfl
    | some i => exact if_pos h

theorem execStageNoteByte_replaces {index : Byte} {value : BitVec 16} {i : Fin 16} (hc : s.port.awaitCsn = false)
    (hi : index.toNat = i.val) (hv : value.toNat ≤ 255) :
    execStageNoteByte index value s = .next { replied s .accepted 0 with
      port := { (replied s .accepted 0).port with staging := s.port.staging.set i (BitVec.ofNat 8 value.toNat) } } := by
  have hbyte : value.setWidth 8 = BitVec.ofNat 8 value.toNat := by simp
  simp only [execStageNoteByte, request_counted hc, indexFin_of_eq hi, if_neg (not_lt.mpr hv), hbyte]
  exact congrArg _ (answered_eq s _ .accepted 0)

theorem execSendNote_out_of_range {index : Byte} {value : BitVec 16} (hc : s.port.awaitCsn = false)
    (h : (31 < index.toNat ∧ index.toNat ≠ 255) ∨ value.toNat = 0 ∨ 16 < value.toNat) :
    execSendNote index value s = refuse s .range := by
  rw [execSendNote, request_counted hc]
  rcases h with ⟨hindex, hall⟩ | h
  · rw [noteTarget_out_of_range hindex hall]
  · cases noteTarget index with
    | none => rfl
    | some t => exact if_pos (by omega)

theorem execSendNote_of_target {target : Option StationNo} {value : BitVec 16} (hc : s.port.awaitCsn = false)
    (hlow : 1 ≤ value.toNat) (hhigh : value.toNat ≤ 16) :
    execSendNote (targetByte target) value s =
      if s.isJoined = false then refuse s .state
      else if (s.queue.entryOf .note).isSome then refuse s .busy
      else accept s (s.place .note (.note target (s.port.staging.toList.take value.toNat))) := by
  have hlength : ¬ (value.toNat < 1 ∨ 16 < value.toNat) := by omega
  simp only [execSendNote, request_counted hc, noteTarget_targetByte, if_neg hlength, stagedBytes]

/-- Settles O11: the staged byte, and SEND_NOTE by its checks in order. -/
theorem notesStagedAndSent : Obligations.NotesStagedAndSent := by
  refine fun index value s hc => ⟨fun hrange => (execStageNoteByte_out_of_range hc hrange).trans (refuse_replied s _),
    fun i hi hv => execStageNoteByte_replaces hc hi hv,
    fun hrange => (execSendNote_out_of_range hc hrange).trans (refuse_replied s _), ?_⟩
  rintro target rfl hlow hhigh
  have hexec := execSendNote_of_target (target := target) hc hlow hhigh
  refine ⟨fun hj => hexec.trans ?_, fun hj hheld => hexec.trans ?_, fun hj hempty => hexec.trans ?_⟩
  · rw [if_pos (not_isJoined hj), refuse_replied]
  · rw [if_neg (isJoined_of_joined hj), if_pos (entryOf_isSome hheld), refuse_replied]
  · rw [if_neg (isJoined_of_joined hj), if_neg (entryOf_not_isSome hempty), accept_place hempty]

end Sys2Proof.Machine
end

section
/-! Timers and the station clock (spec/03_the_transmit_queue.md R48; spec/05 R90, R94; spec/06 R121, R122; spec/08 R156), SNAPSHOT by
station state (spec/05 R87 to R89), and what a spoil settles (spec/03 R53; spec/06 R114). -/

namespace Sys2Proof.Machine

open Sys2Proof.Safety Sys2Proof.Obl

variable {s : State} {c : ChanNo} {q : TxQueue} {o : Owner}

/-! ### Slots whose entries are unsent (R44) -/

theorem slotOwned_of_slots (h : SlotsWellKept s.queue) (c : ChanNo) : SlotOwned s c := fun e he => by
  obtain ⟨ho, hm⟩ := TxQueue.entryOf_some he
  rw [(h.2.1 e hm).1, ho]

theorem rewrite_of_unsent (h : ∀ e ∈ q.entries, e.owner = o → e.onLine = false) (k : Content) : q.rewrite o k = rewritten q o k := by
  have hentries : ∀ e ∈ q.entries, (if e.owner = o ∧ e.onLine = false then { e with content := k } else e)
      = if e.owner = o then { e with content := k } else e :=
    fun e he => if_congr ⟨And.left, fun ho => ⟨ho, h e he ho⟩⟩ rfl rfl
  rw [TxQueue.rewrite, List.map_congr_left hentries]
  rfl

theorem removeUnsent_of_unsent (h : ∀ e ∈ q.entries, e.owner = o → e.onLine = false) : q.removeUnsent o = emptied q o := by
  have hentries : q.entries.filter (fun e => !(decide (e.owner = o) && !e.onLine)) = q.entries.filter fun e => decide (e.owner ≠ o) :=
    List.filter_congr fun e he => by
      by_cases ho : e.owner = o
      · simp [ho, h e he ho]
      · simp [ho]
  rw [TxQueue.removeUnsent, hentries]
  rfl

/-- Emptying an empty slot changes nothing. -/
theorem emptied_of_empty (h : q.entryOf o = none) : emptied q o = q := by
  have hentries : q.entries.filter (fun e => decide (e.owner ≠ o)) = q.entries :=
    List.filter_eq_self.mpr fun e he => decide_eq_true (TxQueue.entryOf_none.mp h e he)
  rw [emptied, hentries]

theorem entryOf_emptied_self (q : TxQueue) (o : Owner) : (emptied q o).entryOf o = none :=
  TxQueue.entryOf_none.mpr fun _ he => of_decide_eq_true (List.mem_filter.mp he).2

/-- An entry removed under a line that does not arbitrate leaves the line as it was. -/
theorem dropEntry_of_unsent (h : ∀ e ∈ s.queue.entries, e.owner = o → e.onLine = false) (hl : s.line.state ≠ .arbitrating) :
    s.dropEntry o = { s with queue := emptied s.queue o } := by
  rw [← removeUnsent_of_unsent h]
  exact if_neg fun harb => hl harb.1

/-! ### The inrush and spacing timers (R121, R122, R141) -/

theorem execInrushTimerExpiry_running {p : Nat} (hs : (s.channel c).state = .inrush) (ht : (s.channel c).inrushTimer = some p) :
    execInrushTimerExpiry c s = .next (inrushOver s c) := by
  rw [execInrushTimerExpiry, if_pos ⟨by simp [ht], hs⟩]

theorem inrushExpiryRunsAndTrims : InrushExpiryRunsAndTrims := by
  intro c p s hs ht hfits hslots
  have hexec := execInrushTimerExpiry_running hs ht
  refine ⟨fun hlt => hexec.trans (congrArg _ ?_), fun hle => hexec.trans (congrArg _ (if_neg (not_lt.mpr hle)))⟩
  have hpending : s.pendingFrame c = .none := by
    simp only [channelFits, hs] at hfits
    exact hfits.2.1
  refine (if_pos hlt).trans ?_
  rw [State.place, State.queue_updChannel, place_of_empty ((slotOwned_of_slots hslots c).empty_of_pending hpending)]
  rfl

/-- The head starts, the others move up, and the timer runs for the start spacing (R121, R122). -/
theorem startHead_cons {rest : List ChanNo} (h : s.chan.startQueue = c :: rest) :
    startHead s = { flagged s [startedFlag c] with
      chan :=
        { putChannel s.chan c { s.channel c with state := .inrush, inrushTimer := some (10 * (s.cfg c).inrushTime) } with
          startQueue := rest
          spacing := if 0 < s.settings.startSpacing then some s.settings.startSpacing else none } } := by
  simp only [startHead, h]
  rfl

theorem startHead_nil (h : s.chan.startQueue = []) : startHead s = s := by simp only [startHead, h]

theorem spacingExpiryStartsHead : SpacingExpiryStartsHead := by
  refine fun p s hspacing => ⟨fun c rest hqueue hlatch => ?_, fun hidle => ?_⟩
  · change execSpacingTimerExpiry s = _
    simp only [execSpacingTimerExpiry, hspacing, Option.isSome_some, if_true, if_pos hlatch]
    exact congrArg _ (startHead_cons (s := s.withChan { s.chan with spacing := none }) hqueue)
  · change execSpacingTimerExpiry s = _
    simp only [execSpacingTimerExpiry, hspacing, Option.isSome_some, if_true]
    split
    · next hlatch =>
      have hempty : s.chan.startQueue = [] := hidle.resolve_right (by simp [hlatch])
      exact congrArg _ (startHead_nil (s := s.withChan { s.chan with spacing := none }) hempty)
    · rfl

/-! ### The census and sync timers, and the clock (R48, R90, R94, R156) -/

theorem setCensus_eq (q : TxQueue) (m : CensusMode) : setCensus q m = { q with census := some (q.census.getD ⟨m, 0, false⟩) } := by
  unfold setCensus
  split
  · next h => rw [h]; rfl
  · next h => rw [h, Option.getD_some, ← h]

theorem timersSetCensusAction : TimersSetCensusAction := by
  refine fun p s => ⟨fun hj ht => ?_, fun hs ht => ?_⟩
  · change execCensusTimerExpiry s = _
    have hjoined : s.isJoined = true := decide_eq_true hj
    rw [execCensusTimerExpiry, if_pos ⟨by simp [ht], hjoined⟩, setCensus_eq]
    rfl
  · change execSyncTimerExpiry s = _
    rw [execSyncTimerExpiry, if_pos ⟨by simp [ht], hs⟩, setCensus_eq]
    rfl

theorem clockTickWraps : ClockTickWraps := by
  refine fun s => ⟨s.monitor.clock + 1, rfl, fun h => ?_, fun h => ?_⟩
  · simp [BitVec.toNat_add]
    omega
  · simp [BitVec.toNat_add, h]

/-- Settles O55: each expiry by its own equation, the slot of an INRUSH channel being empty. -/
theorem timersAndClockAct : Obligations.TimersAndClockAct :=
  ⟨inrushExpiryRunsAndTrims, spacingExpiryStartsHead, timersSetCensusAction, clockTickWraps⟩

/-! ### SNAPSHOT (R49, R87, R88, R89) -/

theorem showsFresh_iff {p : Pool} {n : StationNo} :
    showsFresh p n = true
      ↔ p.rows[n].present = true ∧ (∀ k : PriClass, p.rows[n].totals[k] = 0) ∧ ∀ e ∈ p.waitList, e.station ≠ n := by
  simp [showsFresh, rowSum_eq_sum, and_assoc]

theorem withdrawCensus_eq (q : TxQueue) : withdrawCensus q = censusWithdrawn q := by
  obtain ⟨entries, stop, owed, census, deferred⟩ := q
  cases census with
  | none => rfl
  | some a =>
    obtain ⟨mode, attempts, onLine⟩ := a
    cases onLine <;> rfl

/-- While another's frame is received, nothing of this station's is on the line (R45, R46). -/
theorem unsent_of_hears {n : StationNo} {f : Frame} (hq : QueueKept s) (h : hears s n f) :
    (∀ e ∈ s.queue.entries, e.onLine = false) ∧ ∀ a ∈ s.queue.stop, a.onLine = false := by
  obtain ⟨hentries, hstop, -, hown, -⟩ := hq.carried
  have hnone : ¬ s.line.ownFrame.isSome = true := by
    refine fun hf => ?_
    rcases h with ⟨hs, -⟩ | ⟨hs, -⟩ | ⟨hs, -⟩ <;> simpa [hs] using hown hf
  exact ⟨fun e he => Bool.eq_false_of_not_eq_true fun hon => hnone (hentries e he hon).1,
    fun a ha => Bool.eq_false_of_not_eq_true fun hon => hnone (hstop a ha hon).1⟩

theorem held_not_arbitrating (l : Line) : (held l).state ≠ .arbitrating := by
  cases h : l.holdStuck <;> simp [held, h]

theorem idled_not_arbitrating (l : Line) : (idled l).state ≠ .arbitrating := by
  cases h : l.holdStuck <;> simp [idled, h]

/-- The withdrawal of an unsent SNAPSHOT empties the slot; an empty slot stays so. -/
theorem withdrawSnapshot_eq (hslots : SlotsWellKept s.queue) (hunsent : ∀ e ∈ s.queue.entries, e.onLine = false)
    (hl : s.line.state ≠ .arbitrating)
    (h : s.queue.entryOf .membership = none ∨ ∃ e ∈ s.queue.entries, e.content = .snapshot) :
    withdrawSnapshot s = { s with queue := emptied s.queue .membership } := by
  rcases h with hnone | ⟨e, he, hcontent⟩
  · rw [emptied_of_empty hnone]
    simp only [withdrawSnapshot, hnone]
  · have ho : e.owner = .membership := by
      rw [← (hslots.2.1 e he).1, hcontent]
      rfl
    simp only [withdrawSnapshot, (entryOf_eq_some hslots.1).mpr ⟨he, ho⟩, if_pos hcontent]
    exact dropEntry_of_unsent (fun d hd _ => hunsent d hd) hl

theorem snapshotEffect_of_syncing (t : Terms) (p : Pool) (hs : s.member.station = .syncing) :
    snapshotEffect t p false s = syncingSnapshot t p s := by
  simp only [snapshotEffect, hs]
  exact congrArg _ rfl

theorem snapshotEffect_mismatch {t : Terms} (p : Pool) (hs : s.member.station = .syncing) (ht : s.terms ≠ some t) :
    snapshotEffect t p false s = isolate s .mismatch :=
  (snapshotEffect_of_syncing t p hs).trans (if_pos ht)

theorem snapshotEffect_adopts {t : Terms} {p : Pool} (hs : s.member.station = .syncing) (ht : s.terms = some t)
    (hfresh : showsFresh p s.number = true) :
    snapshotEffect t p false s
      = { flagged s [1] with pool := p, member := joinedFrom s, queue := censusWithdrawn s.queue } := by
  rw [snapshotEffect_of_syncing t p hs, syncingSnapshot, if_neg (not_not_intro ht), if_pos hfresh, ← withdrawCensus_eq]
  rfl

theorem snapshotEffect_waits {t : Terms} {p : Pool} (hs : s.member.station = .syncing) (ht : s.terms = some t)
    (hfresh : ¬ showsFresh p s.number = true) : snapshotEffect t p false s = s := by
  rw [snapshotEffect_of_syncing t p hs, syncingSnapshot, if_neg (not_not_intro ht), if_neg hfresh]

theorem snapshotEffect_of_joining (t : Terms) (p : Pool) (hs : s.member.station = .joining) : snapshotEffect t p false s = s := by
  simp only [snapshotEffect, hs]
  exact if_neg (by decide)

theorem snapshotEffect_of_joined (t : Terms) (p : Pool) (own : Bool) (hs : s.member.station = .joined) :
    snapshotEffect t p own s = if own then reportAccepted true s else withdrawSnapshot s := by
  simp only [snapshotEffect, hs]

/-- Settles O32: the effect by station state, after the line is held. -/
theorem snapshotAppliedByState : Obligations.SnapshotAppliedByState := by
  intro n t p s hf hq
  refine ⟨fun hhears => ?_, fun hj hown => ?_⟩
  · have hexec : exec (.snapshot n t p) s = .next (snapshotEffect t p false { s with line := held s.line }) :=
      acceptFrame_taken (own := false) hf hhears
    refine ⟨fun hs ht => ?_, fun hs ht hfresh => ?_, fun hs ht hfresh => ?_, fun hs => ?_, fun hs hslot => ?_⟩
    · have hp : s.participating = true := by simp [State.participating, hs, StationState.participates]
      rw [snapshotEffect_mismatch (s := { s with line := held s.line }) p hs ht] at hexec
      exact ⟨_, hexec, isolate_withLine_isolatedFrom (l := held s.line) hp rfl .mismatch⟩
    · rwa [snapshotEffect_adopts (s := { s with line := held s.line }) hs ht (showsFresh_iff.mpr hfresh)] at hexec
    · rwa [snapshotEffect_waits (s := { s with line := held s.line }) hs ht (mt showsFresh_iff.mp hfresh)] at hexec
    · rwa [snapshotEffect_of_joining (s := { s with line := held s.line }) t p hs] at hexec
    · rw [snapshotEffect_of_joined (s := { s with line := held s.line }) t p false hs] at hexec
      exact hexec.trans (congrArg _ (withdrawSnapshot_eq (s := { s with line := held s.line }) hq.slots
        (unsent_of_hears hq hhears).1 (held_not_arbitrating s.line) hslot))
  · have hexec : exec (.snapshot n t p) s = .next (snapshotEffect t p true { s with line := held s.line }) :=
      acceptFrame_taken (own := true) hf hown.1
    rw [snapshotEffect_of_joined (s := { s with line := held s.line }) t p true hj] at hexec
    exact hexec.trans (congrArg _ (reportAccepted_after (u := { s with line := held s.line }) (own := true) hq rfl (by simp)
      fun _ => hown.2))

/-! ### What a spoil settles (R53, R114) -/

theorem entryOf_failedOnce (q : TxQueue) (o p : Owner) :
    (failedOnce q o).entryOf p
      = (q.entryOf p).map fun e => if e.owner = o then { e with attempts := e.attempts + 1, onLine := false } else e := by
  simp only [TxQueue.entryOf, failedOnce, List.find?_map]
  congr 1
  refine List.find?_congr fun e _ => ?_
  simp only [Function.comp]
  split <;> rfl

theorem unsent_failedOnce (q : TxQueue) (o : Owner) : ∀ e ∈ (failedOnce q o).entries, e.owner = o → e.onLine = false := by
  intro e he ho
  obtain ⟨d, -, rfl⟩ := List.mem_map.mp he
  split at ho
  · next hd => rw [if_pos hd]
  · next hd => exact absurd ho hd

/-- A slot emptied after its failed attempt leaves no trace of the count. -/
theorem emptied_failedOnce (q : TxQueue) (o : Owner) : emptied (failedOnce q o) o = emptied q o := by
  have hentries : (failedOnce q o).entries.filter (fun e => decide (e.owner ≠ o)) = q.entries.filter fun e => decide (e.owner ≠ o) := by
    simp only [failedOnce, List.filter_map]
    have hkept : q.entries.filter ((fun e : Entry => decide (e.owner ≠ o)) ∘
        fun e => if e.owner = o then { e with attempts := e.attempts + 1, onLine := false } else e)
        = q.entries.filter fun e => decide (e.owner ≠ o) :=
      List.filter_congr fun e _ => by by_cases ho : e.owner = o <;> simp [ho]
    rw [hkept]
    refine (List.map_congr_left fun e he => if_neg ?_).trans (List.map_id' _)
    exact of_decide_eq_true (List.mem_filter.mp he).2
  simp only [emptied, hentries]
  rfl

/-- A failed attempt leaves what a channel has pending. -/
theorem pendingFrame_failedOnce (s : State) (l : Line) (o : Owner) (c : ChanNo) :
    ({ s with line := l, queue := failedOnce s.queue o } : State).pendingFrame c = s.pendingFrame c := by
  simp only [State.pendingFrame, entryOf_failedOnce]
  cases s.queue.entryOf (.channel c) with
  | none => rfl
  | some e =>
    simp only [Option.map_some, apply_ite Entry.content, ite_self]

/-- A failed attempt below the eighth, with what it settles still to do. -/
theorem failedAttempt_settles {e : Entry} (hn : (s.queue.entries.map Entry.owner).Nodup) (he : e ∈ s.queue.entries)
    (ho : e.owner = o) (hcount : e.attempts < 7) :
    failedAttempt s (.entry o) = settleOwner { s with queue := failedOnce s.queue o } o := by
  subst ho
  simp only [failedAttempt, entryOf_of_mem hn he]
  exact if_pos hcount

/-- The follow-up of a spoiled CLAIM: the entry leaves, and the channel is OFF. -/
theorem settleSpoil_claim (hf : (s.channel c).followUp = true) (hp : s.pendingFrame c = .claim)
    (hunsent : ∀ e ∈ s.queue.entries, e.owner = .channel c → e.onLine = false) (hl : s.line.state ≠ .arbitrating) :
    settleSpoil s c = { s with
      queue := emptied s.queue (.channel c), chan := putChannel s.chan c { s.channel c with state := .off, followUp := false } } := by
  unfold settleSpoil
  rw [if_pos hf, if_pos hp, dropEntry_of_unsent hunsent hl]
  rfl

/-- The follow-up of a spoiled TRIM: a FULL of all the counted units in its place. -/
theorem settleSpoil_trim (hf : (s.channel c).followUp = true) (hp : s.pendingFrame c = .trim)
    (hunsent : ∀ e ∈ s.queue.entries, e.owner = .channel c → e.onLine = false) :
    settleSpoil s c = { s with
      queue := rewritten s.queue (.channel c) (.release c (s.cfg c).cls (s.channel c).counted .full)
      chan := putChannel s.chan c { s.channel c with followUp := false } } := by
  unfold settleSpoil
  rw [if_pos hf, if_neg (by simp [hp]), ← rewrite_of_unsent hunsent]
  rfl

/-- A deferred raise at level 3 asks for nothing. -/
theorem sagRaise_of_top (h : s.pool.level = 3) : sagRaise s = s := if_pos h

theorem settleRaise_deferred (h : s.queue.deferredRaise = true) :
    settleRaise s = sagRaise { s with queue := { s.queue with deferredRaise := false } } := if_pos h

/-- A deferred raise is dropped at level 3, and behind a SET that asks for more. -/
theorem settleRaise_stays {e : Entry} (hd : s.queue.deferredRaise = true) (hslot : s.queue.entryOf .shed = some e)
    (hon : e.onLine = false) (h : s.pool.level = 3 ∨ ∃ l : ShedLevel, e.content = .shed .set l ∧ s.pool.level < l) :
    settleRaise s = { s with queue := { s.queue with deferredRaise := false } } := by
  rw [settleRaise_deferred hd]
  rcases h with htop | ⟨l, hset, hl⟩
  · exact sagRaise_of_top htop
  · have hlevel : s.pool.level < 3 := lt_of_lt_of_le hl (Fin.le_last l)
    exact sagRaise_of_higher (s := { s with queue := { s.queue with deferredRaise := false } }) hlevel hslot hon hset hl

/-- Otherwise it rewrites the unsent SHED. -/
theorem settleRaise_rewrites {e : Entry} (hd : s.queue.deferredRaise = true) (hslot : s.queue.entryOf .shed = some e)
    (hunsent : ∀ d ∈ s.queue.entries, d.owner = .shed → d.onLine = false) (hlevel : s.pool.level < 3)
    (hset : ∀ l : ShedLevel, e.content = .shed .set l → l ≤ s.pool.level) :
    settleRaise s = { s with
      queue := { rewritten s.queue .shed (.shed .raise s.pool.level) with deferredRaise := false } } := by
  obtain ⟨ho, hm⟩ := TxQueue.entryOf_some hslot
  have hraise := sagRaise_of_unsent (s := { s with queue := { s.queue with deferredRaise := false } }) hlevel hslot
    (hunsent e hm ho) hset
  rw [settleRaise_deferred hd, hraise, ← rewrite_of_unsent hunsent]
  rfl

theorem failure_not_arbitrating (s : State) (i : Fin 3) : (Obl.failure s i).2.state ≠ .arbitrating := by
  match i with
  | 0 => exact idled_not_arbitrating s.line
  | 1 => exact idled_not_arbitrating s.line
  | 2 => simp [Obl.failure, readsOn]

/-- Settles O17: a failed attempt counts, and then the follow-up or the deferred raise is settled on the unsent entry. -/
theorem spoilSettlesWhatIsOwed : Obligations.SpoilSettlesWhatIsOwed := by
  intro i s hfails _ hq
  have hexec := exec_failure hfails
  have hline := failure_not_arbitrating s i
  generalize (Obl.failure s i).1 = cmd at hexec ⊢
  generalize (Obl.failure s i).2 = l at hexec hline ⊢
  refine ⟨fun c e he ho hcount hoffer hfollow => ?_, fun e he ho hcount hoffer hdeferred => ?_⟩
  · have hsettles := failedAttempt_settles (s := { s with line := l }) hq.slots.1 he ho hcount
    have hpending := pendingFrame_failedOnce s l (.channel c) c
    have hunsent := unsent_failedOnce s.queue (.channel c)
    rw [hoffer, failCarried, hsettles] at hexec
    refine ⟨fun hclaim => hexec.trans (congrArg _ ?_), fun htrim => hexec.trans (congrArg _ ?_)⟩
    · rw [← emptied_failedOnce]
      exact settleSpoil_claim (s := { s with line := l, queue := failedOnce s.queue (.channel c) }) hfollow
        (hpending.trans hclaim) hunsent hline
    · exact settleSpoil_trim (s := { s with line := l, queue := failedOnce s.queue (.channel c) }) hfollow
        (hpending.trans htrim) hunsent
  · have hsettles := failedAttempt_settles (s := { s with line := l }) hq.slots.1 he ho hcount
    rw [hoffer, failCarried, hsettles] at hexec
    have hslot : (failedOnce s.queue .shed).entryOf .shed = some { e with attempts := e.attempts + 1, onLine := false } := by
      rw [entryOf_failedOnce, (entryOf_eq_some hq.slots.1).mpr ⟨he, ho⟩, Option.map_some, if_pos ho]
    exact ⟨fun hstays => hexec.trans (congrArg _ (settleRaise_stays (s := { s with line := l, queue := failedOnce s.queue .shed })
        hdeferred hslot rfl hstays)),
      fun hlevel hset => hexec.trans (congrArg _ (settleRaise_rewrites (s := { s with line := l, queue := failedOnce s.queue .shed })
        hdeferred hslot (unsent_failedOnce s.queue .shed) hlevel hset))⟩

end Sys2Proof.Machine
end

section
/-! The grants of one wait-list service told to this station's channels (spec/04_claims_releases_and_the_wait_list.md R70;
spec/06_output_channels.md R115, R121): the model's outcomes are the table's, and what lies beside the channels has no part in them. -/

namespace Sys2Proof.Machine

open Sys2Proof.Safety Sys2Proof.Obl

variable {s : State} {c : ChanNo} {u : Nat} {g : GroupNo}

/-! ### One grant (R115, R121) -/

/-- A channel that joins an empty start queue, the timer stopped and the latch clear, starts at once (R121). -/
theorem joinStartQueue_free (hspacing : s.chan.spacing = none) (hlatch : s.chan.latch = false) (hqueue : s.chan.startQueue = [])
    (c : ChanNo) (x : Channel) :
    joinStartQueue (s.setChannel c x) c = { flagged s [startedFlag c] with
      chan :=
        { putChannel s.chan c { x with state := .inrush, inrushTimer := some (10 * (s.cfg c).inrushTime) } with
          spacing := if 0 < s.settings.startSpacing then some s.settings.startSpacing else none } } := by
  have hjoin : joinStartQueue (s.setChannel c x) c
      = startHead { s with chan := { putChannel s.chan c x with startQueue := [c] } } := by
    refine (if_pos ⟨hspacing, hlatch⟩).trans ?_
    rw [State.chan_setChannel, hqueue]
    rfl
  have hchannel : ({ s with chan := { putChannel s.chan c x with startQueue := [c] } } : State).channel c = x := by
    simp [State.channel, putChannel]
  rw [hjoin, startHead_cons (rest := []) rfl, hchannel]
  simp only [putChannel, Vector.set_set, hqueue]
  rfl

theorem takeGrant_eq (h : HeadStarted s) (c : ChanNo) (u : Nat) (g : GroupNo) : takeGrant s c u g = grantTo s c u g := by
  by_cases hg : g = 0
  · rw [takeGrant, if_pos hg, grantTo, if_neg (not_not_intro hg)]
    by_cases hfree : s.chan.spacing = none ∧ s.chan.latch = false
    · have hqueue := h hfree.1 hfree.2
      rw [if_pos ⟨hfree.1, hfree.2, hqueue⟩]
      exact joinStartQueue_free hfree.1 hfree.2 hqueue c _
    · rw [if_neg fun hx => hfree ⟨hx.1, hx.2.1⟩]
      exact if_neg hfree
  · rw [takeGrant, if_neg hg, grantTo, if_pos hg]
    rfl

theorem grantedOutcome_eq (hn : (s.queue.entries.map Entry.owner).Nodup) (h : HeadStarted s) (c : ChanNo) (u : Nat) (g : GroupNo) :
    grantedOutcome s c u g true = grantFromList s c u g := by
  by_cases hwaiting : (s.channel c).state = .waiting
  · simp only [grantedOutcome, hwaiting, grantFromList, if_pos]
    exact takeGrant_eq h c u g
  · rw [grantFromList, if_neg hwaiting]
    by_cases hreleasing : (s.channel c).state = .releasing
    · simp only [grantedOutcome, hreleasing, withdrawUnsent, true_and, Bool.and_eq_true, decide_eq_true_eq,
        Bool.not_eq_true']
      split
      · next hunsent =>
        rw [rewriteFull, State.rewrite, State.queue_setChannel, rewrite_of_unsent (unsent_of_not_frozen hn hunsent.2)]
        simp only [fullOf, State.channel_setChannel_self]
        rfl
      · rfl
    · rw [if_neg fun hx => hreleasing hx.1]
      unfold grantedOutcome
      dsimp only
      split <;> simp_all

/-! ### Grants one after another (R70) -/

theorem owners_rewritten (q : TxQueue) (o : Owner) (k : Content) :
    (rewritten q o k).entries.map Entry.owner = q.entries.map Entry.owner := by
  simp only [rewritten, List.map_map]
  refine List.map_congr_left fun e _ => ?_
  simp only [Function.comp]
  split <;> rfl

theorem owners_grantFromList (s : State) (c : ChanNo) (u : Nat) (g : GroupNo) :
    (grantFromList s c u g).queue.entries.map Entry.owner = s.queue.entries.map Entry.owner := by
  unfold grantFromList
  split
  · unfold grantTo
    split
    · rfl
    · split <;> rfl
  · split
    · exact owners_rewritten s.queue _ _
    · rfl

theorem headStarted_grantFromList (h : HeadStarted s) (c : ChanNo) (u : Nat) (g : GroupNo) : HeadStarted (grantFromList s c u g) := by
  unfold grantFromList
  split
  · unfold grantTo
    split
    · exact h
    · split
      · next hfree => exact fun _ _ => hfree.2.2
      · next hbusy => exact fun hspacing hlatch => absurd ⟨hspacing, hlatch, h hspacing hlatch⟩ hbusy
  · split
    · exact h
    · exact h

theorem grantOutcomes_eq (w : List WaitEntry) (hn : (s.queue.entries.map Entry.owner).Nodup) (h : HeadStarted s) :
    grantOutcomes s w = toldGrants s w := by
  induction w generalizing s with
  | nil => rfl
  | cons e rest ih =>
    rw [grantOutcomes, toldGrants, grantedOutcome_eq hn h]
    split
    · exact ih (by rwa [owners_grantFromList]) (headStarted_grantFromList h _ _ _)
    · exact ih hn h

/-- Entries of other stations tell this one nothing. -/
theorem grantOutcomes_of_others {w : List WaitEntry} (h : ∀ e ∈ w, e.station ≠ s.number) : grantOutcomes s w = s := by
  induction w with
  | nil => rfl
  | cons e rest ih =>
    rw [grantOutcomes, if_neg (h e List.mem_cons_self)]
    exact ih fun d hd => h d (List.mem_cons_of_mem e hd)

/-! ### What a grant does to the queue (R115) -/

theorem queue_startHead (s : State) : (startHead s).queue = s.queue := by
  unfold startHead
  split <;> rfl

theorem queue_takeGrant (s : State) (c : ChanNo) (u : Nat) (g : GroupNo) : (takeGrant s c u g).queue = s.queue := by
  unfold takeGrant joinStartQueue
  split
  · dsimp only
    split
    · rw [queue_startHead]
      rfl
    · rfl
  · rfl

/-- A grant from the wait list rewrites the channel's own entry, if it writes the queue at all. -/
theorem queue_grantedOutcome (s : State) (c : ChanNo) (u : Nat) (g : GroupNo) :
    (grantedOutcome s c u g true).queue = s.queue
      ∨ ∃ k, (grantedOutcome s c u g true).queue = s.queue.rewrite (.channel c) k := by
  cases hs : (s.channel c).state with
  | waiting =>
    simp only [grantedOutcome, hs]
    exact .inl (queue_takeGrant s c u g)
  | releasing =>
    simp only [grantedOutcome, hs]
    split
    · exact .inr ⟨_, rfl⟩
    · exact .inl rfl
  | _ => simp [grantedOutcome, hs]

/-! ### What has no part in a grant -/

/-- The station with its pool state and its line replaced, which no grant reads or writes. -/
def besideChannels (p : Pool) (l : Line) (s : State) : State := { s with pool := p, line := l }

theorem grantTo_beside (p : Pool) (l : Line) (s : State) (c : ChanNo) (u : Nat) (g : GroupNo) :
    grantTo (besideChannels p l s) c u g = besideChannels p l (grantTo s c u g) := by
  unfold grantTo
  rw [apply_ite (besideChannels p l), apply_ite (besideChannels p l)]
  rfl

theorem grantFromList_beside (p : Pool) (l : Line) (s : State) (c : ChanNo) (u : Nat) (g : GroupNo) :
    grantFromList (besideChannels p l s) c u g = besideChannels p l (grantFromList s c u g) := by
  unfold grantFromList
  rw [apply_ite (besideChannels p l), apply_ite (besideChannels p l), grantTo_beside]
  rfl

theorem toldGrants_beside (p : Pool) (l : Line) (s : State) (w : List WaitEntry) :
    toldGrants (besideChannels p l s) w = besideChannels p l (toldGrants s w) := by
  induction w generalizing s with
  | nil => rfl
  | cons e rest ih =>
    rw [toldGrants, toldGrants, grantFromList_beside, ← ih, apply_ite (besideChannels p l)]
    rfl

theorem flagged_comm (s : State) (l m : List (Fin 27)) : flagged (flagged s l) m = flagged (flagged s m) l := by
  have hflags : pend s.port.flags (l ++ m) = pend s.port.flags (m ++ l) := by
    refine Vector.ext fun i hi => ?_
    have h1 := getElem_pend s.port.flags (l ++ m) ⟨i, hi⟩
    have h2 := getElem_pend s.port.flags (m ++ l) ⟨i, hi⟩
    have hmem : (⟨i, hi⟩ : Fin 27) ∈ l ++ m ↔ (⟨i, hi⟩ : Fin 27) ∈ m ++ l := by simp [or_comm]
    rw [decide_eq_decide.mpr hmem] at h1
    exact h1.trans h2.symm
  rw [flagged_flagged, flagged_flagged, flagged, hflags]
  rfl

theorem grantTo_flagged (s : State) (m : List (Fin 27)) (c : ChanNo) (u : Nat) (g : GroupNo) :
    grantTo (flagged s m) c u g = flagged (grantTo s c u g) m := by
  unfold grantTo
  rw [apply_ite (flagged · m), apply_ite (flagged · m), flagged_comm s m]
  rfl

theorem grantFromList_flagged (s : State) (m : List (Fin 27)) (c : ChanNo) (u : Nat) (g : GroupNo) :
    grantFromList (flagged s m) c u g = flagged (grantFromList s c u g) m := by
  unfold grantFromList
  rw [apply_ite (flagged · m), apply_ite (flagged · m), grantTo_flagged]
  rfl

theorem toldGrants_flagged (s : State) (m : List (Fin 27)) (w : List WaitEntry) :
    toldGrants (flagged s m) w = flagged (toldGrants s w) m := by
  induction w generalizing s with
  | nil => rfl
  | cons e rest ih =>
    rw [toldGrants, toldGrants, grantFromList_flagged, ← ih, apply_ite (flagged · m)]
    rfl

end Sys2Proof.Machine
end

section
/-! What a shed or a stop makes of the channels (spec/06_output_channels.md R118, R119; spec/07 R135): one channel swept, and then the
channels of a list, one after another, at a station of which nothing is on the line. -/

namespace Sys2Proof.Machine

open Sys2Proof.Safety Sys2Proof.Obl

variable {r : Reason} {s t u : State} {c d : ChanNo} {l : List ChanNo} {q : TxQueue}

/-! ### One channel swept -/

/-- What a channel needs to be swept in order (R41, R110, R121, R131): its entry is unsent, and no offer stands in arbitration. -/
structure SweepReady (s : State) (c : ChanNo) : Prop where
  unsent : ∀ e ∈ s.queue.entries, e.owner = .channel c → e.onLine = false
  empty : (s.channel c).state = .disabled ∨ (s.channel c).state = .off ∨ (s.channel c).state = .probing →
    s.queue.entryOf (.channel c) = none
  starts : c ∈ s.chan.startQueue → (s.channel c).state = .startWait
  probes : c ∈ s.probe.queue → (s.channel c).state = .probing
  line : s.line.state ≠ .arbitrating

/-- The station with one channel swept: its record by the table, its slot empty, both queues without it, STOPPED where it served. -/
def sweptAt (r : Reason) (s : State) (c : ChanNo) : State :=
  { flagged s (if (s.channel c).state.inService then [stoppedFlag c] else []) with
    queue := emptied s.queue (.channel c)
    chan :=
      { putChannel s.chan c (swept r (s.channel c)) with startQueue := s.chan.startQueue.filter fun d => decide (d ∉ [c]) }
    probe := probeWithout [c] s.probe }

theorem leaveProbe_eq (s : State) (c : ChanNo) : leaveProbe s c = { s with probe := probeWithout [c] s.probe } := by
  have hhead : s.probe.queue.head?.any (fun d => decide (d ∈ [c])) = true ↔ s.probe.queue.head? = some c := by
    cases hq : s.probe.queue <;> simp
  simp only [leaveProbe, probeWithout, hhead]
  split <;> simp [State.withProbe]

/-- A channel that is neither enabled nor serving is left alone. -/
theorem sweepChannel_idle (h : SweepReady s c) (r : Reason) (hs : (s.channel c).state = .disabled ∨ (s.channel c).state = .off) :
    sweepChannel s c r = sweptAt r s c := by
  have hmodel : sweepChannel s c r = s := by rcases hs with hs | hs <;> simp only [sweepChannel, hs]
  have htable : swept r (s.channel c) = s.channel c := by rcases hs with hs | hs <;> simp only [swept, hs]
  have hquiet : (s.channel c).state.inService = false := by rcases hs with hs | hs <;> simp only [hs, ChState.inService]
  have hprobe : c ∉ s.probe.queue := fun hm => by rcases hs with hs | hs <;> simpa [hs] using h.probes hm
  have hstart : c ∉ s.chan.startQueue := fun hm => by rcases hs with hs | hs <;> simpa [hs] using h.starts hm
  have hempty := emptied_of_empty (h.empty (hs.imp_right .inl))
  rw [hmodel, sweptAt, htable, hempty, hquiet, probeWithout_of_not_mem hprobe, startQueue_of_not_mem hstart]
  exact (withRecord_self s c).symm

theorem sweepChannel_probing (h : SweepReady s c) (r : Reason) (hs : (s.channel c).state = .probing) :
    sweepChannel s c r = sweptAt r s c := by
  have hstart : c ∉ s.chan.startQueue := fun hm => by simpa [hs] using h.starts hm
  have hempty := emptied_of_empty (h.empty (.inr (.inr hs)))
  simp only [sweepChannel, sweptAt, swept, hs, leaveProbe_eq, hempty, startQueue_of_not_mem hstart]
  rfl

/-- A channel whose release is under way, or that is FAULTED, counts nothing any more. -/
theorem sweepChannel_releasing (h : SweepReady s c) (r : Reason)
    (hs : (s.channel c).state = .faulted ∨ (s.channel c).state = .releasing) : sweepChannel s c r = sweptAt r s c := by
  have hprobe : c ∉ s.probe.queue := fun hm => by rcases hs with hs | hs <;> simpa [hs] using h.probes hm
  have hstart : c ∉ s.chan.startQueue := fun hm => by rcases hs with hs | hs <;> simpa [hs] using h.starts hm
  have hdrop := dropEntry_of_unsent h.unsent h.line
  rcases hs with hs | hs <;>
    simp only [sweepChannel, sweptAt, swept, hs, hdrop, probeWithout_of_not_mem hprobe, startQueue_of_not_mem hstart] <;> rfl

/-- A channel that serves, but for PROBING, is OFF at once. -/
theorem sweepChannel_serving (h : SweepReady s c) (r : Reason) (hs : (s.channel c).state.inService = true)
    (hp : (s.channel c).state ≠ .probing) : sweepChannel s c r = sweptAt r s c := by
  have hmodel : sweepChannel s c r = ((leaveStartQueue (s.dropEntry (.channel c)) c).setChannel c
      { s.channel c with counted := 0, state := .off, inrushTimer := none, lastReason := some r }).raise (.stopped c) := by
    cases hx : (s.channel c).state <;> simp_all [ChState.inService, sweepChannel]
  have htable : swept r (s.channel c)
      = { s.channel c with counted := 0, state := .off, inrushTimer := none, lastReason := some r } := by
    cases hx : (s.channel c).state <;> simp_all [ChState.inService, swept]
  rw [hmodel, sweptAt, htable, if_pos hs, dropEntry_of_unsent h.unsent h.line, probeWithout_of_not_mem (mt h.probes hp)]
  simp only [leaveStartQueue, List.mem_singleton]
  rfl

theorem sweepChannel_eq (h : SweepReady s c) (r : Reason) : sweepChannel s c r = sweptAt r s c := by
  cases hs : (s.channel c).state with
  | disabled => exact sweepChannel_idle h r (.inl hs)
  | off => exact sweepChannel_idle h r (.inr hs)
  | probing => exact sweepChannel_probing h r hs
  | faulted => exact sweepChannel_releasing h r (.inl hs)
  | releasing => exact sweepChannel_releasing h r (.inr hs)
  | _ => exact sweepChannel_serving h r (by simp [hs, ChState.inService]) (by simp [hs])

/-! ### A list of channels swept -/

/-- The channels of `l` are swept, and no other (R118, R119). -/
structure Swept (r : Reason) (l : List ChanNo) (s t : State) : Prop where
  frame : t = { s with
    queue := withoutChannels s.queue fun c => decide (c ∈ l), chan := { t.chan with spacing := s.chan.spacing, latch := s.chan.latch }
    probe := probeWithout l s.probe, port := { s.port with flags := t.port.flags } }
  records : ∀ d : ChanNo, t.channel d = if d ∈ l then swept r (s.channel d) else s.channel d
  starts : t.chan.startQueue = s.chan.startQueue.filter fun d => decide (d ∉ l)
  raises : Raises s t ((l.filter fun c => (s.channel c).state.inService).map stoppedFlag)

theorem mem_withoutChannels {hit : ChanNo → Bool} {e : Entry} :
    e ∈ (withoutChannels q hit).entries ↔ e ∈ q.entries ∧ ∀ c : ChanNo, e.owner = .channel c → hit c = false := by
  simp only [withoutChannels, List.mem_filter]
  cases e.owner <;> simp

theorem withoutChannels_congr {f g : ChanNo → Bool} (h : ∀ c, f c = g c) : withoutChannels q f = withoutChannels q g := by
  rw [funext h]

/-- An owner's entry stays, unless it is a channel's that is hit. -/
def staysWithout (hit : ChanNo → Bool) : Owner → Bool
  | .channel c => !hit c
  | _ => true

theorem withoutChannels_eq (q : TxQueue) (hit : ChanNo → Bool) :
    withoutChannels q hit = { q with entries := q.entries.filter fun e => staysWithout hit e.owner } := by
  have hentries : (withoutChannels q hit).entries = q.entries.filter fun e => staysWithout hit e.owner :=
    List.filter_congr fun e _ => by cases e.owner <;> rfl
  rw [← hentries]
  rfl

theorem withoutChannels_nil (q : TxQueue) : withoutChannels q (fun c => decide (c ∈ ([] : List ChanNo))) = q := by
  have hentries : (q.entries.filter fun e => staysWithout (fun c => decide (c ∈ ([] : List ChanNo))) e.owner) = q.entries :=
    List.filter_eq_self.mpr fun e _ => by cases e.owner <;> simp [staysWithout]
  rw [withoutChannels_eq, hentries]

theorem withoutChannels_singleton (q : TxQueue) (c : ChanNo) :
    withoutChannels q (fun d => decide (d ∈ [c])) = emptied q (.channel c) := by
  have hentries : (q.entries.filter fun e => staysWithout (fun d => decide (d ∈ [c])) e.owner)
      = q.entries.filter fun e => decide (e.owner ≠ .channel c) :=
    List.filter_congr fun e _ => by cases e.owner <;> simp [staysWithout]
  rw [withoutChannels_eq, hentries]
  rfl

theorem withoutChannels_cons (q : TxQueue) (c : ChanNo) (l : List ChanNo) :
    withoutChannels (withoutChannels q fun d => decide (d ∈ [c])) (fun d => decide (d ∈ l))
      = withoutChannels q fun d => decide (d ∈ c :: l) := by
  simp only [withoutChannels_eq, List.filter_filter]
  have hentries : (q.entries.filter fun e => staysWithout (fun d => decide (d ∈ l)) e.owner
        && staysWithout (fun d => decide (d ∈ [c])) e.owner)
      = q.entries.filter fun e => staysWithout (fun d => decide (d ∈ c :: l)) e.owner :=
    List.filter_congr fun e _ => by cases e.owner <;> simp [staysWithout, Bool.and_comm]
  rw [hentries]

theorem swept_nil (r : Reason) (s : State) : Swept r [] s s where
  frame := by
    rw [withoutChannels_nil]
    simp [probeWithout]
  records := by simp
  starts := by simp
  raises := by simp [Raises]

theorem swept_singleton (h : SweepReady s c) (r : Reason) : Swept r [c] s (sweepChannel s c r) := by
  rw [sweepChannel_eq h]
  refine ⟨?_, fun d => ?_, rfl, ?_⟩
  · rw [withoutChannels_singleton]
    rfl
  · by_cases hd : d = c
    · simp [State.channel, sweptAt, putChannel, hd]
    · have hne : (c : Nat) ≠ d := fun e => hd (Fin.ext e.symm)
      simp [State.channel, sweptAt, putChannel, hd, hne]
  · have hflags : ([c].filter fun c => (s.channel c).state.inService).map stoppedFlag
        = if (s.channel c).state.inService then [stoppedFlag c] else [] := by
      cases hx : (s.channel c).state.inService <;> simp [hx]
    rw [hflags]
    exact flagged_raises s _

theorem Swept.record_of_not_mem (h : Swept r l s u) (hd : d ∉ l) : u.channel d = s.channel d := by rw [h.records, if_neg hd]

theorem Swept.cons (h : Swept r [c] s u) (h' : Swept r l u t) (hc : c ∉ l) : Swept r (c :: l) s t := by
  have hothers : ∀ d ∈ l, u.channel d = s.channel d :=
    fun d hd => h.record_of_not_mem fun hm => hc (List.mem_singleton.mp hm ▸ hd)
  refine ⟨?_, fun d => ?_, ?_, ?_⟩
  · rw [← withoutChannels_cons, ← probeWithout_cons, h'.frame, h.frame]
  · by_cases hd : d ∈ l
    · rw [h'.records, if_pos hd, hothers d hd, if_pos (List.mem_cons_of_mem c hd)]
    · rw [h'.record_of_not_mem hd, h.records]
      simp [hd]
  · rw [h'.starts, h.starts, filter_notMem_cons]
  · have hserve : (l.filter fun d => (u.channel d).state.inService) = l.filter fun d => (s.channel d).state.inService :=
      List.filter_congr fun d hd => by rw [hothers d hd]
    have hboth := raises_append h.raises h'.raises
    rwa [hserve, ← List.map_append, ← List.filter_append, List.singleton_append] at hboth

/-- A channel is ready for its sweep whatever was swept before it. -/
theorem SweepReady.of_swept (h : SweepReady s d) (hu : Swept r l s u) (hd : d ∉ l) : SweepReady u d := by
  have hrecord := hu.record_of_not_mem hd
  have hqueue : u.queue = withoutChannels s.queue fun c => decide (c ∈ l) := by rw [hu.frame]
  have hline : u.line = s.line := by rw [hu.frame]
  have hprobe : u.probe = probeWithout l s.probe := by rw [hu.frame]
  refine ⟨fun e he ho => ?_, fun hs => ?_, fun hm => ?_, fun hm => ?_, ?_⟩
  · rw [hqueue, mem_withoutChannels] at he
    exact h.unsent e he.1 ho
  · rw [hrecord] at hs
    refine TxQueue.entryOf_none.mpr fun e he => TxQueue.entryOf_none.mp (h.empty hs) e ?_
    rw [hqueue, mem_withoutChannels] at he
    exact he.1
  · rw [hu.starts] at hm
    rw [hrecord]
    exact h.starts (List.mem_filter.mp hm).1
  · rw [hprobe] at hm
    rw [hrecord]
    exact h.probes (List.mem_filter.mp hm).1
  · rw [hline]
    exact h.line

/-- Channels swept one after another are swept as the table has each. -/
theorem foldl_swept (hl : l.Nodup) (h : ∀ c ∈ l, SweepReady s c) (r : Reason) :
    Swept r l s (l.foldl (fun t c => sweepChannel t c r) s) := by
  induction l generalizing s with
  | nil => exact swept_nil r s
  | cons c l ih =>
    obtain ⟨hc, hl⟩ := List.nodup_cons.mp hl
    have hfirst := swept_singleton (h c List.mem_cons_self) r
    refine hfirst.cons (ih hl fun d hd => ?_) hc
    exact (h d (List.mem_cons_of_mem c hd)).of_swept hfirst fun hm => hc (List.mem_singleton.mp hm ▸ hd)

/-! ### The sweep as the statements have it -/

theorem probeWithout_eq (p : Probe) {hit : ChanNo → Bool} (hl : ∀ c, c ∈ l ↔ hit c = true) :
    probeWithout l p =
      { queue := p.queue.filter fun c => !hit c
        reference := if p.queue.head?.any hit then 0 else p.reference
        load := if p.queue.head?.any hit then 0 else p.load } := by
  have hmem : (fun c => decide (c ∈ l)) = hit := funext fun c => by simp [hl]
  have hnot : (fun c => decide (c ∉ l)) = fun c => !hit c := funext fun c => by simp [hl]
  rw [probeWithout, hmem, hnot]

theorem Swept.sweeps {hit : ChanNo → Bool} (h : Swept r l s t) (hl : ∀ c, c ∈ l ↔ hit c = true) : Sweeps r hit s t := by
  refine ⟨fun c => ?_, ?_, ?_⟩
  · rw [h.records]
    exact if_congr (hl c) rfl rfl
  · rw [h.starts]
    exact List.filter_congr fun c _ => by simp [hl]
  · rw [← probeWithout_eq s.probe hl, h.frame]

theorem Swept.pool (h : Swept r l s t) : t.pool = s.pool := by rw [h.frame]

theorem Swept.queue {hit : ChanNo → Bool} (h : Swept r l s t) (hl : ∀ c, c ∈ l ↔ hit c = true) :
    t.queue = withoutChannels s.queue hit := by
  rw [h.frame]
  exact withoutChannels_congr fun c => by simp [hl]

/-- STOPPED is raised for the channels hit that served. -/
theorem filter_hit (s : State) (hit : ChanNo → Bool) :
    ((allChannels.filter hit).filter fun c => (s.channel c).state.inService).map stoppedFlag
      = stoppedOf fun c => hit c && (s.channel c).state.inService := by
  rw [stoppedOf, List.filter_filter]
  congr 1
  exact List.filter_congr fun c _ => Bool.and_comm _ _

/-- At a station in order of which nothing is on the line, every channel is ready for a sweep. -/
theorem sweepReady_of_fits (hfit : ChannelsFit s) (hslots : SlotsWellKept s.queue) (hchan : u.chan = s.chan)
    (hprobe : u.probe = s.probe) (hslot : u.queue.entryOf (.channel c) = s.queue.entryOf (.channel c))
    (hunsent : ∀ e ∈ u.queue.entries, e.onLine = false) (hline : u.line.state ≠ .arbitrating) : SweepReady u c := by
  obtain ⟨hfits, hstarts, hprobes⟩ := hfit
  have hrecord : u.channel c = s.channel c := by rw [State.channel, hchan]; rfl
  refine ⟨fun e he _ => hunsent e he, fun hs => ?_, fun hm => ?_, fun hm => ?_, hline⟩
  · rw [hrecord] at hs
    rw [hslot]
    refine (slotOwned_of_slots hslots c).empty_of_pending ?_
    have hfits := hfits c
    rcases hs with hs | hs | hs <;> simp only [channelFits, hs] at hfits <;> exact hfits.2.1
  · rw [hrecord]
    exact (hstarts.2 c).mp (hchan ▸ hm)
  · rw [hrecord]
    exact (hprobes.2 c).mp (hprobe ▸ hm)

end Sys2Proof.Machine
end

section
/-! SHED and STOP applied (spec/03_the_transmit_queue.md R46, R50, R51, R53; spec/04_claims_releases_and_the_wait_list.md R70 to R77;
spec/06_output_channels.md R118, R119): the report of the own frame, the pool change, and then the sweep or the grants. -/

namespace Sys2Proof.Machine

open Sys2Proof.Safety Sys2Proof.Obl

variable {own : Bool} {s u : State} {n : StationNo} {l : ShedLevel} {f : Frame} {o p : Owner} {q : TxQueue} {k : Content}

/-! ### A frame that is applied -/

theorem part_of_applies (h : applies own s n f o) : if own then sends s n f else hears s n f := by
  obtain ⟨-, -, -, hpart⟩ := h
  cases own with
  | true => exact hpart.1
  | false => exact hpart

theorem entry_of_applies (h : applies own s n f o) : own = true → ∃ e ∈ s.queue.entries, e.owner = o ∧ e.onLine = true := by
  obtain ⟨-, -, -, hpart⟩ := h
  rintro rfl
  exact hpart.2

/-- One entry at most is on the line (R45, R46). -/
theorem onLine_owner (hq : QueueKept s) {d e : Entry} (hd : d ∈ s.queue.entries) (he : e ∈ s.queue.entries) (hdon : d.onLine = true)
    (heon : e.onLine = true) : d.owner = e.owner := by
  simpa using (hq.carried.1 d hd hdon).2.symm.trans (hq.carried.1 e he heon).2

/-! ### Slots emptied and filled -/

theorem entryOf_emptied_of_ne (hp : p ≠ o) : (emptied q o).entryOf p = q.entryOf p := by
  simp only [TxQueue.entryOf, emptied, List.find?_filter]
  refine List.find?_congr fun e _ => ?_
  by_cases he : e.owner = p <;> simp [he, hp]

theorem placed_eq_place (h : q.entryOf o = none) (k : Content) : placed q o k = q.place o k := (place_of_empty h k).symm

theorem nodup_emptied (hn : (q.entries.map Entry.owner).Nodup) (o : Owner) : ((emptied q o).entries.map Entry.owner).Nodup :=
  hn.sublist (List.Sublist.map _ List.filter_sublist)

theorem nodup_place (hn : (q.entries.map Entry.owner).Nodup) (h : q.entryOf o = none) (k : Content) :
    ((q.place o k).entries.map Entry.owner).Nodup := by
  rw [owners_place h]
  refine hn.append (List.nodup_singleton o) fun p hp ho => ?_
  obtain ⟨e, he, rfl⟩ := List.mem_map.mp hp
  exact TxQueue.entryOf_none.mp h e he (List.mem_singleton.mp ho)

/-! ### The queue after a SHED (R46, R53) -/

/-- The queue of a SHED's sender, its entry removed and no raise deferred any more. -/
def withoutShed (q : TxQueue) : TxQueue := { emptied q .shed with deferredRaise := false }

theorem withoutShed_empty (q : TxQueue) : (withoutShed q).entryOf .shed = none := entryOf_emptied_self q .shed

theorem afterShed_raised (hd : s.queue.deferredRaise = true) (hl : l < 3) :
    afterShed true s l = (withoutShed s.queue).place .shed (.shed .raise l) := by
  rw [← placed_eq_place (withoutShed_empty _)]
  exact if_pos (c := s.queue.deferredRaise = true ∧ l < 3) ⟨hd, hl⟩

theorem afterShed_plain (h : ¬ (s.queue.deferredRaise = true ∧ l < 3)) : afterShed true s l = withoutShed s.queue := if_neg h

/-- The report of a SHED, with the level that it leaves. -/
theorem reportAccepted_shed (hq : QueueKept s) (hu : u.queue = s.queue)
    (ho : own = true → ∃ e ∈ s.queue.entries, e.owner = .shed ∧ e.onLine = true) :
    reportAccepted own u = { u with queue := afterShed own s u.pool.level } := by
  cases own with
  | false => simp [reportAccepted, afterShed, ← hu]
  | true =>
    have hreport : reportAccepted true u = settleRaise { u with queue := emptied s.queue .shed } := by
      rw [reportAccepted, if_pos rfl, hu, removeAccepted_entry hq (ho rfl)]
      rfl
    have hempty : ∀ e ∈ (withoutShed s.queue).entries, e.owner ≠ .shed := TxQueue.entryOf_none.mp (withoutShed_empty s.queue)
    rw [hreport]
    by_cases hd : s.queue.deferredRaise = true
    · rw [settleRaise_deferred (s := { u with queue := emptied s.queue .shed }) hd]
      by_cases htop : u.pool.level = 3
      · rw [afterShed_plain fun h => absurd h.2 (by rw [htop]; decide)]
        exact sagRaise_of_top (s := { u with queue := withoutShed s.queue }) htop
      · have hlevel : u.pool.level < 3 := lt_of_le_of_ne (Fin.le_last _) htop
        rw [afterShed_raised hd hlevel, ← placed_eq_place (withoutShed_empty _)]
        exact sagRaise_of_empty (s := { u with queue := withoutShed s.queue }) hlevel hempty
    · have hsame : withoutShed s.queue = emptied s.queue .shed := by
        simp [withoutShed, emptied, Bool.eq_false_of_not_eq_true hd]
      rw [afterShed_plain fun h => hd h.1, hsame]
      exact if_neg hd

theorem mem_afterShed {e : Entry} (he : e ∈ (afterShed true s l).entries) :
    (e ∈ s.queue.entries ∧ e.owner ≠ .shed) ∨ e = ⟨.shed, .shed .raise l, 0, false⟩ := by
  have hold : ∀ d ∈ (withoutShed s.queue).entries, d ∈ s.queue.entries ∧ d.owner ≠ .shed := fun d hd => by
    simpa using List.mem_filter.mp hd
  by_cases h : s.queue.deferredRaise = true ∧ l < 3
  · rw [afterShed_raised h.1 h.2, place_of_empty (withoutShed_empty _)] at he
    rcases List.mem_append.mp he with he | he
    · exact .inl (hold e he)
    · exact .inr (List.mem_singleton.mp he)
  · rw [afterShed_plain h] at he
    exact .inl (hold e he)

/-- Once a SHED is accepted, no entry is on the line. -/
theorem unsent_afterShed (h : applies own s n f .shed) (l : ShedLevel) : ∀ e ∈ (afterShed own s l).entries, e.onLine = false := by
  have hpart := part_of_applies h
  have hentry := entry_of_applies h
  obtain ⟨-, -, hq, -⟩ := h
  cases own with
  | false => exact (unsent_of_hears hq hpart).1
  | true =>
    obtain ⟨d, hd, hdo, hdon⟩ := hentry rfl
    intro e he
    rcases mem_afterShed he with ⟨hm, ho⟩ | rfl
    · exact Bool.eq_false_of_not_eq_true fun hon => ho ((onLine_owner hq hm hd hon hdon).trans hdo)
    · rfl

theorem entryOf_afterShed (hp : p ≠ .shed) : (afterShed own s l).entryOf p = s.queue.entryOf p := by
  cases own with
  | false => rfl
  | true =>
    have hrest : (withoutShed s.queue).entryOf p = s.queue.entryOf p := entryOf_emptied_of_ne hp
    by_cases h : s.queue.deferredRaise = true ∧ l < 3
    · rw [afterShed_raised h.1 h.2, entryOf_place_of_ne hp, hrest]
    · rw [afterShed_plain h, hrest]

theorem nodup_afterShed (hn : (s.queue.entries.map Entry.owner).Nodup) :
    ((afterShed own s l).entries.map Entry.owner).Nodup := by
  cases own with
  | false => exact hn
  | true =>
    have hrest : ((withoutShed s.queue).entries.map Entry.owner).Nodup := nodup_emptied hn .shed
    by_cases h : s.queue.deferredRaise = true ∧ l < 3
    · rw [afterShed_raised h.1 h.2]
      exact nodup_place hrest (withoutShed_empty _) _
    · rw [afterShed_plain h]
      exact hrest

/-! ### SHED applied (R72 to R75) -/

/-- The station once a SHED has changed the pool state to `x` and its report is given. -/
def shedReported (own : Bool) (s : State) (x : Pool) : State :=
  { s with line := held s.line, pool := x, queue := afterShed own s x.level }

theorem shedReported_eq (h : applies own s n f .shed) (x : Pool) :
    reportAccepted own (({ s with line := held s.line } : State).withPool x) = shedReported own s x := by
  have hentry := entry_of_applies h
  obtain ⟨-, -, hq, -⟩ := h
  exact reportAccepted_shed hq rfl hentry

/-- SET and RAISE alike, where the level rises. -/
theorem shedSetEffect_rises (h : applies own s n f .shed) (hl : s.pool.level < l) :
    shedSetEffect l own { s with line := held s.line }
      = flagged (shedOutcome (shedReported own s (raiseLevel s.pool l)) l) [4] := by
  have hchange : applyShedSet s.limit s.pool l = (raiseLevel s.pool l, []) := if_pos hl
  rw [← shedReported_eq h]
  obtain ⟨hj, -, -, -⟩ := h
  refine (if_pos (decide_eq_true hj)).trans ((if_pos (ne_of_lt hl)).trans ?_)
  rw [raise_eq_flagged]
  change flagged (grantOutcomes (if s.pool.level < l then
    shedOutcome (reportAccepted own (({ s with line := held s.line } : State).withPool (applyShedSet s.limit s.pool l).1)) l else _)
      (applyShedSet s.limit s.pool l).2) [4] = _
  rw [hchange, if_pos hl]
  rfl

/-- A SET at or below the level lowers or keeps it, and service runs. -/
theorem shedSetEffect_lowers (h : applies own s n f .shed) (hl : l ≤ s.pool.level) :
    shedSetEffect l own { s with line := held s.line }
      = if s.pool.level ≠ l then
          flagged (grantOutcomes (shedReported own s (serve s.limit { s.pool with level := l }).1)
            (serve s.limit { s.pool with level := l }).2) [4]
        else grantOutcomes (shedReported own s (serve s.limit { s.pool with level := l }).1)
          (serve s.limit { s.pool with level := l }).2 := by
  have hchange : applyShedSet s.limit s.pool l = serve s.limit { s.pool with level := l } := if_neg (not_lt.mpr hl)
  rw [← shedReported_eq h]
  obtain ⟨hj, -, -, -⟩ := h
  refine (if_pos (decide_eq_true hj)).trans ?_
  change (if s.pool.level ≠ l then flagged (grantOutcomes (if s.pool.level < l then _ else
    reportAccepted own (({ s with line := held s.line } : State).withPool (applyShedSet s.limit s.pool l).1))
      (applyShedSet s.limit s.pool l).2) [4] else grantOutcomes (if s.pool.level < l then _ else
    reportAccepted own (({ s with line := held s.line } : State).withPool (applyShedSet s.limit s.pool l).1))
      (applyShedSet s.limit s.pool l).2) = _
  rw [hchange, if_neg (not_lt.mpr hl)]

theorem exec_shedSet (h : applies own s n (.shed .set l) .shed) :
    exec (.shedSet n l) s = .next (shedSetEffect l own { s with line := held s.line }) :=
  acceptFrame_taken h.2.1 (part_of_applies h)

/-- RAISE from the level is SET to the next one. -/
theorem exec_shedRaise_next (h : applies own s n (.shed .raise s.pool.level) .shed) (hl : l.val = s.pool.level.val + 1) :
    exec (.shedRaise n s.pool.level) s = .next (shedSetEffect l own { s with line := held s.line }) := by
  have hlt : s.pool.level < 3 := by
    change s.pool.level.val < 3
    omega
  have hnext : s.pool.level + 1 = l := by
    refine Fin.ext ?_
    rw [Fin.val_add_one_of_lt hlt, hl]
  refine (acceptFrame_taken h.2.1 (part_of_applies h)).trans (congrArg _ ?_)
  rw [← hnext]
  exact if_pos ⟨rfl, hlt⟩

/-- RAISE with another prior changes nothing. -/
theorem exec_shedRaise_other (h : applies own s n (.shed .raise l) .shed) (hl : l ≠ s.pool.level) :
    exec (.shedRaise n l) s = .next { s with line := held s.line, queue := afterShed own s s.pool.level } := by
  refine (acceptFrame_taken h.2.1 (part_of_applies h)).trans (congrArg _ ?_)
  refine (if_neg fun hx => hl hx.1.symm).trans ?_
  exact reportAccepted_shed (u := { s with line := held s.line }) h.2.2.1 rfl (entry_of_applies h)

/-! ### The sweep of a SHED (R118) -/

theorem foldl_shedChannel (cs : List ChanNo) (hs : u.settings = s.settings) :
    cs.foldl (shedChannel l) u = (cs.filter fun d => decide ((s.cfg d).cls < l)).foldl (fun t c => sweepChannel t c .shed) u := by
  induction cs generalizing u with
  | nil => rfl
  | cons c cs ih =>
    have hcfg : u.cfg c = s.cfg c := by rw [State.cfg, hs]; rfl
    by_cases hc : (s.cfg c).cls < l
    · obtain ⟨-, hsettings, -⟩ := ChannelWrites.sweepChannel u c .shed
      rw [List.foldl_cons, List.filter_cons_of_pos (by simpa using hc), List.foldl_cons, shedChannel, hcfg, if_pos hc]
      exact ih (hsettings.trans hs)
    · rw [List.foldl_cons, List.filter_cons_of_neg (by simpa using hc), shedChannel, hcfg, if_neg hc]
      exact ih hs

/-- The channels below the new level are swept, and no other. -/
theorem shedOutcome_swept (h : applies own s n f .shed) (hfit : ChannelsFit s) (x : Pool) (l : ShedLevel) :
    Swept .shed (allChannels.filter fun d => decide ((s.cfg d).cls < l)) (shedReported own s x)
      (shedOutcome (shedReported own s x) l) := by
  rw [shedOutcome, foldl_shedChannel (u := shedReported own s x) (s := s) allChannels rfl]
  refine foldl_swept (List.Nodup.filter _ (by decide)) (fun c _ => ?_) .shed
  exact sweepReady_of_fits hfit h.2.2.1.slots rfl rfl (entryOf_afterShed (by simp)) (unsent_afterShed h _)
    (held_not_arbitrating s.line)

theorem row_raiseLevel (x : Pool) (l : ShedLevel) (m : StationNo) : (raiseLevel x l).rows[m] = zeroBelow l x.rows[m] :=
  row_mapRows x _ m

theorem total_raiseLevel (x : Pool) (l : ShedLevel) (m : StationNo) (k : PriClass) :
    (raiseLevel x l).rows[m].totals[k] = if k < l then 0 else x.rows[m].totals[k] := by
  rw [row_raiseLevel, total_zeroBelow]

theorem presence_raiseLevel (x : Pool) (l : ShedLevel) (m : StationNo) :
    (raiseLevel x l).rows[m].present = x.rows[m].present ∧ (raiseLevel x l).rows[m].misses = x.rows[m].misses := by
  rw [row_raiseLevel]
  exact ⟨rfl, rfl⟩

theorem mem_filter_allChannels {hit : ChanNo → Bool} (c : ChanNo) : c ∈ allChannels.filter hit ↔ hit c = true := by
  simp [mem_allChannels]

/-- Settles O28: whichever SHED raises the level, its channels are swept from the state its report leaves. -/
theorem shedRaisesLevel : Obligations.ShedRaisesLevel := by
  intro own raise n l s c f hit happlies hfit hl hnext
  have hexec : exec c s = .next (flagged (shedOutcome (shedReported own s (raiseLevel s.pool l)) l) [4]) := by
    cases raise with
    | false => exact (exec_shedSet happlies).trans (congrArg _ (shedSetEffect_rises happlies hl))
    | true => exact (exec_shedRaise_next happlies (hnext rfl)).trans (congrArg _ (shedSetEffect_rises happlies hl))
  have hswept := shedOutcome_swept happlies hfit (raiseLevel s.pool l) l
  have hmem : ∀ c, c ∈ allChannels.filter hit ↔ hit c = true := mem_filter_allChannels
  have hqueue := hswept.queue hmem
  have hsweeps := hswept.sweeps hmem
  have hframe := hswept.frame
  have hraises := hswept.raises
  generalize shedOutcome (shedReported own s (raiseLevel s.pool l)) l = v at *
  have hpool : v.pool = raiseLevel s.pool l := by rw [hframe]; rfl
  refine ⟨_, hexec, ?_, congrArg Pool.level hpool, congrArg Pool.waitList hpool, fun m k => ?_, fun m => ?_, hsweeps, ?_⟩
  · have hafter : withoutChannels (afterShed own s l) hit = v.queue := hqueue.symm
    rw [hafter, hframe]
    rfl
  · rw [← total_raiseLevel, ← hpool]
    rfl
  · rw [← (presence_raiseLevel s.pool l m).1, ← (presence_raiseLevel s.pool l m).2, ← hpool]
    exact ⟨rfl, rfl⟩
  · refine raises_congr (raises_append hraises (flagged_raises v [4])) fun i => ?_
    rw [filter_hit, List.mem_append, List.mem_singleton, or_comm, List.mem_cons]
    rfl

/-! ### A SHED that does not raise the level (R73, R74, R75) -/

theorem level_serve (limit : Nat) (x : Pool) : (serve limit x).1.level = x.level := (serveList_frame limit x x.waitList).1

/-- The grants of the service, told beside the pool state and the line that the SHED leaves. -/
theorem grantOutcomes_shedReported (h : applies own s n f .shed) (hhead : HeadStarted s) (x : Pool) (w : List WaitEntry) :
    grantOutcomes (shedReported own s x) w
      = besideChannels x (held s.line) (toldGrants { s with queue := afterShed own s x.level } w) := by
  rw [grantOutcomes_eq (s := shedReported own s x) w (nodup_afterShed h.2.2.1.slots.1) hhead, ← toldGrants_beside]
  rfl

theorem shedKeepsOrLowersLevel : ShedKeepsOrLowersLevel := by
  refine fun own n l s => ⟨fun happlies hl hhead => ?_, exec_shedRaise_other⟩
  have hlevel : (serve s.limit { s.pool with level := l }).1.level = l := level_serve s.limit _
  have hgrants := grantOutcomes_shedReported happlies hhead (serve s.limit { s.pool with level := l }).1
    (serve s.limit { s.pool with level := l }).2
  rw [hlevel] at hgrants
  refine (exec_shedSet happlies).trans (congrArg _ ((shedSetEffect_lowers happlies hl).trans ?_))
  rw [hgrants]
  by_cases hsame : l = s.pool.level
  · rw [if_neg (not_not_intro hsame.symm), if_pos hsame]
    rfl
  · rw [if_pos (Ne.symm hsame), if_neg hsame]
    change _ = besideChannels (serve s.limit { s.pool with level := l }).1 (held s.line)
      (toldGrants (flagged { s with queue := afterShed own s l } [4]) (serve s.limit { s.pool with level := l }).2)
    rw [toldGrants_flagged]
    rfl

/-! ### The raise deferred behind an own SHED (R53) -/

/-- The RAISE that a deferred raise places at a level below 3. -/
def raiseAt (l : ShedLevel) : List Entry := if l < 3 then [⟨.shed, .shed .raise l, 0, false⟩] else []

/-- No raise is deferred, and the shed slot holds, as the newest entry, the RAISE from `l`, or nothing at level 3. -/
def EndsInRaise (q : TxQueue) (l : ShedLevel) : Prop :=
  q.deferredRaise = false ∧ ∃ older, q.entries = older ++ raiseAt l ∧ ∀ e ∈ older, e.owner ≠ .shed

namespace EndsInRaise

theorem afterShed (hd : s.queue.deferredRaise = true) (l : ShedLevel) : EndsInRaise (afterShed true s l) l := by
  have hrest : ∀ e ∈ (withoutShed s.queue).entries, e.owner ≠ .shed := TxQueue.entryOf_none.mp (withoutShed_empty s.queue)
  by_cases hl : l < 3
  · rw [afterShed_raised hd hl, place_of_empty (withoutShed_empty _)]
    exact ⟨rfl, _, by rw [raiseAt, if_pos hl], hrest⟩
  · rw [afterShed_plain fun h => hl h.2]
    exact ⟨rfl, _, by rw [raiseAt, if_neg hl, List.append_nil], hrest⟩

theorem shed_of_mem_raiseAt {e : Entry} (he : e ∈ raiseAt l) : e.owner = .shed := by
  unfold raiseAt at he
  split at he
  · rw [List.mem_singleton.mp he]
  · simp at he

/-- A channel's entry rewritten is none of the shed slot's. -/
theorem rewrite (h : EndsInRaise q l) (c : ChanNo) (k : Content) : EndsInRaise (q.rewrite (.channel c) k) l := by
  obtain ⟨hd, older, hentries, holder⟩ := h
  refine ⟨hd, older.map fun e => if e.owner = .channel c ∧ e.onLine = false then { e with content := k } else e, ?_, fun e he => ?_⟩
  · have hraise : (raiseAt l).map (fun e => if e.owner = .channel c ∧ e.onLine = false then { e with content := k } else e)
        = raiseAt l := (List.map_congr_left fun e he => if_neg (by simp [shed_of_mem_raiseAt he])).trans (List.map_id' _)
    simp only [TxQueue.rewrite, hentries, List.map_append, hraise]
  · obtain ⟨d, hm, rfl⟩ := List.mem_map.mp he
    have howner := holder d hm
    split <;> exact howner

theorem withoutChannels (h : EndsInRaise q l) (hit : ChanNo → Bool) : EndsInRaise (withoutChannels q hit) l := by
  obtain ⟨hd, older, hentries, holder⟩ := h
  have hraise : (raiseAt l).filter (fun e => staysWithout hit e.owner) = raiseAt l :=
    List.filter_eq_self.mpr fun e he => by rw [shed_of_mem_raiseAt he]; rfl
  rw [withoutChannels_eq]
  refine ⟨hd, older.filter fun e => staysWithout hit e.owner, ?_, fun e he => holder e (List.mem_filter.mp he).1⟩
  simp only [hentries, List.filter_append, hraise]

theorem grantOutcomes {w : List WaitEntry} (h : EndsInRaise s.queue l) : EndsInRaise (grantOutcomes s w).queue l := by
  induction w generalizing s with
  | nil => exact h
  | cons e rest ih =>
    rw [Machine.grantOutcomes]
    split
    · refine ih ?_
      rcases queue_grantedOutcome s e.channel e.units e.group with hsame | ⟨k, hrewrite⟩
      · rwa [hsame]
      · rw [hrewrite]
        exact h.rewrite _ k
    · exact ih h

/-- What the statement asks of the queue. -/
theorem placed_or_empty (h : EndsInRaise q l) :
    q.deferredRaise = false
      ∧ (l < 3 → ∃ older, q.entries = older ++ [⟨.shed, .shed .raise l, 0, false⟩] ∧ ∀ e ∈ older, e.owner ≠ .shed)
      ∧ (l = 3 → q.entryOf .shed = none) := by
  obtain ⟨hd, older, hentries, holder⟩ := h
  refine ⟨hd, fun hl => ⟨older, ?_, holder⟩, fun htop => TxQueue.entryOf_none.mpr ?_⟩
  · rw [hentries, raiseAt, if_pos hl]
  · rw [hentries, raiseAt, if_neg (by rw [htop]; decide), List.append_nil]
    exact holder

end EndsInRaise

theorem sweep_endsInRaise (h : applies true s n f .shed) (hd : s.queue.deferredRaise = true) (hfit : ChannelsFit s) (x : Pool)
    (l : ShedLevel) :
    (shedOutcome (shedReported true s x) l).pool = x ∧ EndsInRaise (shedOutcome (shedReported true s x) l).queue x.level := by
  have hswept := shedOutcome_swept h hfit x l
  exact ⟨hswept.pool, hswept.queue mem_filter_allChannels ▸ (EndsInRaise.afterShed hd x.level).withoutChannels _⟩

theorem grants_endInRaise (hd : s.queue.deferredRaise = true) (x : Pool) (w : List WaitEntry) :
    (grantOutcomes (shedReported true s x) w).pool = x
      ∧ EndsInRaise (grantOutcomes (shedReported true s x) w).queue x.level := by
  obtain ⟨-, -, -, -, hpool, -⟩ := ChannelWrites.grantOutcomes (shedReported true s x) w
  exact ⟨hpool, EndsInRaise.grantOutcomes (s := shedReported true s x) (EndsInRaise.afterShed hd x.level)⟩

/-- An own SHED that sets the level `l`, up or down, is followed by the deferred RAISE from `l`. -/
theorem shedSetEffect_endsInRaise (h : applies true s n f .shed) (hd : s.queue.deferredRaise = true) (hfit : ChannelsFit s)
    (l : ShedLevel) :
    (shedSetEffect l true { s with line := held s.line }).pool.level = l
      ∧ EndsInRaise (shedSetEffect l true { s with line := held s.line }).queue l := by
  by_cases hl : s.pool.level < l
  · obtain ⟨hpool, hqueue⟩ := sweep_endsInRaise h hd hfit (raiseLevel s.pool l) l
    rw [shedSetEffect_rises h hl]
    exact ⟨congrArg Pool.level hpool, hqueue⟩
  · have hlevel : (serve s.limit { s.pool with level := l }).1.level = l := level_serve s.limit _
    obtain ⟨hpool, hqueue⟩ := grants_endInRaise hd (serve s.limit { s.pool with level := l }).1
      (serve s.limit { s.pool with level := l }).2
    rw [hlevel] at hqueue
    rw [shedSetEffect_lowers h (not_lt.mp hl)]
    split
    · exact ⟨(congrArg Pool.level hpool).trans hlevel, hqueue⟩
    · exact ⟨(congrArg Pool.level hpool).trans hlevel, hqueue⟩

theorem deferredRaiseFollowsOwnShed : DeferredRaiseFollowsOwnShed := by
  intro form l s happlies hd hfit
  cases form with
  | set =>
    obtain ⟨hlevel, hqueue⟩ := shedSetEffect_endsInRaise happlies hd hfit l
    refine ⟨_, exec_shedSet happlies, congrArg Fin.val hlevel, ?_⟩
    rw [hlevel]
    exact hqueue.placed_or_empty
  | raise =>
    by_cases hprior : s.pool.level = l
    · subst hprior
      have hrange : s.pool.level.val ≤ 2 := of_decide_eq_true happlies.2.1
      obtain ⟨m, hm⟩ : ∃ m : ShedLevel, m.val = s.pool.level.val + 1 := ⟨⟨s.pool.level.val + 1, by omega⟩, rfl⟩
      obtain ⟨hlevel, hqueue⟩ := shedSetEffect_endsInRaise happlies hd hfit m
      refine ⟨_, exec_shedRaise_next happlies hm, (congrArg Fin.val hlevel).trans (hm.trans (if_pos rfl).symm), ?_⟩
      rw [hlevel]
      exact hqueue.placed_or_empty
    · exact ⟨_, exec_shedRaise_other happlies (Ne.symm hprior), (if_neg hprior).symm,
        (EndsInRaise.afterShed hd s.pool.level).placed_or_empty⟩

/-- Settles O54: service and its grants where the level does not rise, and what every own SHED leaves in the shed slot. -/
theorem shedKeepsLowersOrDefers : Obligations.ShedKeepsLowersOrDefers := ⟨shedKeepsOrLowersLevel, deferredRaiseFollowsOwnShed⟩

end Sys2Proof.Machine
end

section
/-! STOP applied (spec/03_the_transmit_queue.md R46, R50, R51; spec/04_claims_releases_and_the_wait_list.md R70, R76, R77;
spec/06_output_channels.md R119, R124): the action's end, the rows emptied, and then the sweep or the grants. -/

namespace Sys2Proof.Machine

open Sys2Proof.Safety Sys2Proof.Obl

variable {own : Bool} {s u : State} {n m : StationNo} {target : Option StationNo} {q : TxQueue}

/-! ### The queue after a STOP (R46, R50, R51) -/

/-- A STOP that the station takes part in: its own, with the action on the line, or another's. -/
def takesStop (own : Bool) (s : State) (n : StationNo) (target : Option StationNo) : Prop :=
  if own then sends s n (.stop target) ∧ s.queue.stop.any (fun a => a.onLine) = true else hears s n (.stop target)

theorem part_of_takesStop (h : takesStop own s n target) :
    if own then sends s n (.stop target) else hears s n (.stop target) := by
  cases own with
  | true => exact h.1
  | false => exact h

theorem entries_afterStop (own : Bool) (q : TxQueue) (target : Option StationNo) : (afterStop own q target).entries = q.entries := by
  unfold afterStop
  split
  · rfl
  · split <;> rfl

/-- While the STOP action is on the line, nothing else is, and no raise is deferred (R45, R53). -/
theorem unsent_of_stopSent (hq : QueueKept s) (h : s.queue.stop.any (fun a => a.onLine) = true) :
    (∀ e ∈ s.queue.entries, e.onLine = false) ∧ s.queue.census.any (fun a => a.onLine) = false
      ∧ s.queue.deferredRaise = false := by
  obtain ⟨hentries, hstop, hcensus, -, -⟩ := hq.carried
  rw [Option.any_eq_true] at h
  obtain ⟨a, ha, hon⟩ := h
  have hoffer : s.line.offer = some .stop := (hstop a ha hon).2
  have hunsent : ∀ e ∈ s.queue.entries, e.onLine = false := fun e he => Bool.eq_false_of_not_eq_true fun heon => by
    simpa [hoffer] using (hentries e he heon).2
  refine ⟨hunsent, ?_, Bool.eq_false_of_not_eq_true fun hd => ?_⟩
  · rw [Option.any_eq_false]
    exact fun b hb => Bool.eq_false_of_not_eq_true fun hbon => by simpa [hoffer] using (hcensus b hb hbon).2
  · obtain ⟨e, he, -, heon⟩ := (frozen_iff hq.slots.1).mp (hq.owed.2 hd)
    simp [hunsent e he] at heon

theorem removeAccepted_stop (hq : QueueKept s) (h : s.queue.stop.any (fun a => a.onLine) = true) (target : Option StationNo) :
    removeAccepted s.queue = afterStop true s.queue target := by
  obtain ⟨hunsent, hcensus, -⟩ := unsent_of_stopSent hq h
  have hentries : s.queue.entries.filter (fun e => !e.onLine) = s.queue.entries :=
    List.filter_eq_self.mpr fun e he => by simp [hunsent e he]
  simp [removeAccepted, afterStop, h, hentries, hcensus]

theorem withdrawStop_eq (hunsent : ∀ a ∈ q.stop, a.onLine = false) (target : Option StationNo) :
    withdrawStop q target = afterStop false q target := by
  obtain ⟨entries, stop, owed, census, deferred⟩ := q
  cases stop with
  | none =>
    simp only [withdrawStop, afterStop, Bool.false_eq_true, if_false]
    exact (ite_self _).symm
  | some a =>
    have hoff : a.onLine = false := hunsent a rfl
    have hcovers : (a.onLine = false ∧ (target = none ∨ target = a.target)) ↔ target = none ∨ some a.target = some target := by
      rw [Option.some_inj, eq_comm (a := a.target)]
      exact and_iff_right hoff
    simp only [withdrawStop, afterStop, Option.map_some, hcovers, Bool.false_eq_true, if_false]

/-- What the report of the own STOP and the withdrawal at another's make of the queue. -/
theorem coverStop_reported (hq : QueueKept s) (h : takesStop own s n target) (hu : u.queue = s.queue) :
    coverStop own target (reportAccepted own u) = { u with queue := afterStop own s.queue target } := by
  cases own with
  | false =>
    rw [← withdrawStop_eq (unsent_of_hears hq h).2, ← hu]
    rfl
  | true =>
    obtain ⟨-, -, hdeferred⟩ := unsent_of_stopSent hq h.2
    change reportAccepted true u = _
    rw [reportAccepted, if_pos rfl, hu, removeAccepted_stop hq h.2 target, settleRaise]
    exact if_neg (by simp [afterStop, hdeferred])

theorem unsent_of_takesStop (hq : QueueKept s) (h : takesStop own s n target) : ∀ e ∈ s.queue.entries, e.onLine = false := by
  cases own with
  | true => exact (unsent_of_stopSent hq h.2).1
  | false => exact (unsent_of_hears hq h).1

/-! ### STOP applied (R76, R77) -/

/-- The station once a STOP has changed the pool state to `x` and its action is settled. -/
def stopReported (own : Bool) (s : State) (target : Option StationNo) (x : Pool) : State :=
  { s with line := held s.line, pool := x, queue := afterStop own s.queue target }

theorem stopAllEffect_of_joined (hj : s.isJoined = true) :
    stopAllEffect own s = stoppedOutcome (coverStop own none (reportAccepted own (s.withPool (applyStopAll s.limit s.pool).1))) true :=
  if_pos hj

theorem stopStationEffect_of_joined (hj : s.isJoined = true) (m : StationNo) (hm : m ≠ s.number) :
    stopStationEffect m own s
      = grantOutcomes (coverStop own (some m) (reportAccepted own (s.withPool (applyStopStation s.limit s.pool m).1)))
        (applyStopStation s.limit s.pool m).2 :=
  (if_pos hj).trans (congrArg (grantOutcomes · _) (if_neg hm))

theorem stopStationEffect_of_own (hj : s.isJoined = true) :
    stopStationEffect s.number own s
      = grantOutcomes (stoppedOutcome
          (coverStop own (some s.number) (reportAccepted own (s.withPool (applyStopStation s.limit s.pool s.number).1))) false)
        (applyStopStation s.limit s.pool s.number).2 :=
  (if_pos hj).trans (congrArg (grantOutcomes · _) (if_pos rfl))

theorem stopReported_eq (hq : QueueKept s) (h : takesStop own s n target) (x : Pool) :
    coverStop own target (reportAccepted own (({ s with line := held s.line } : State).withPool x)) = stopReported own s target x :=
  coverStop_reported hq h rfl

/-- The service of a STOP grants nothing to the station stopped: its entries went first. -/
theorem stopStation_grants_others (limit : Nat) (x : Pool) (m : StationNo) :
    ∀ e ∈ (applyStopStation limit x m).2, e.station ≠ m := by
  intro e he
  have hsplit := serveList_split limit (removeStation { x with rows := x.rows.set m (clearTotals x.rows[m]) } m)
    (x.waitList.filter fun e => decide (e.station ≠ m))
  have hmem : e ∈ x.waitList.filter fun e => decide (e.station ≠ m) := by
    rw [← hsplit]
    exact List.mem_append_left _ he
  exact of_decide_eq_true (List.mem_filter.mp hmem).2

/-! ### The sweep of a STOP (R119, R124) -/

theorem foldl_stopped_swept (hq : QueueKept s) (hfit : ChannelsFit s) (h : takesStop own s n target) (x : Pool) :
    Swept .stopped allChannels (stopReported own s target x)
      (allChannels.foldl (fun t c => sweepChannel t c .stopped) (stopReported own s target x)) := by
  refine foldl_swept (by decide) (fun c _ => ?_) .stopped
  refine sweepReady_of_fits hfit hq.slots rfl rfl ?_ (fun e he => ?_) (held_not_arbitrating s.line)
  · simp only [TxQueue.entryOf, stopReported, entries_afterStop]
  · rw [stopReported, entries_afterStop] at he
    exact unsent_of_takesStop hq h e he

/-- A stopped station, as the statement has it: every channel swept, the spacing timer stopped, the latch clear where ALL stop. -/
def StoppedAs (own : Bool) (s : State) (target : Option StationNo) (x : Pool) (t : State) : Prop :=
  t = { s with
      pool := t.pool, line := held s.line, queue := withoutChannels (afterStop own s.queue target) fun _ => true
      chan := { t.chan with spacing := none, latch := s.chan.latch && decide (target ≠ none) }, probe := t.probe
      port := { s.port with flags := t.port.flags } }
    ∧ t.pool = x ∧ Sweeps .stopped (fun _ => true) s t ∧ Raises s t (stoppedOf fun d => (s.channel d).state.inService)

theorem stoppedOutcome_stoppedAs (hq : QueueKept s) (hfit : ChannelsFit s) (h : takesStop own s n target) (x : Pool) :
    StoppedAs own s target x (stoppedOutcome (stopReported own s target x) (decide (target = none))) := by
  have hswept := foldl_stopped_swept hq hfit h x
  have hmem : ∀ c, c ∈ allChannels ↔ (fun _ : ChanNo => true) c = true := fun c => by simp [mem_allChannels]
  have hqueue := hswept.queue hmem
  obtain ⟨hrecords, hstarts, hprobe⟩ := hswept.sweeps hmem
  have hframe := hswept.frame
  have hpool := hswept.pool
  have hraises := hswept.raises
  simp only [stoppedOutcome]
  generalize allChannels.foldl (fun t c => sweepChannel t c .stopped) (stopReported own s target x) = v at *
  have hlatch : (if decide (target = none) then false else v.chan.latch) = (s.chan.latch && decide (target ≠ none)) := by
    have hkept : v.chan.latch = s.chan.latch := by rw [hframe]; rfl
    rw [hkept]
    by_cases ht : target = none <;> simp [ht]
  refine ⟨?_, hpool, ⟨hrecords, ?_, hprobe⟩, hraises⟩
  · have hafter : withoutChannels (afterStop own s.queue target) (fun _ => true) = v.queue := hqueue.symm
    rw [hlatch, hafter, hframe]
    rfl
  · simp [State.withChan]

theorem exec_stopAll (hj : s.member.station = .joined) (hq : QueueKept s) (h : takesStop own s n none) :
    exec (.stopAll n) s = .next (stoppedOutcome (stopReported own s none (applyStopAll s.limit s.pool).1) true) := by
  refine (acceptFrame_taken rfl (part_of_takesStop h)).trans (congrArg _ ?_)
  rw [← stopReported_eq hq h]
  exact stopAllEffect_of_joined (s := { s with line := held s.line }) (decide_eq_true hj)

theorem exec_stopStation_other (hj : s.member.station = .joined) (hq : QueueKept s) (h : takesStop own s n (some m))
    (hm : m ≠ s.number) :
    exec (.stopStation n m) s = .next (grantOutcomes (stopReported own s (some m) (applyStopStation s.limit s.pool m).1)
      (applyStopStation s.limit s.pool m).2) := by
  refine (acceptFrame_taken rfl (part_of_takesStop h)).trans (congrArg _ ?_)
  rw [← stopReported_eq hq h]
  exact stopStationEffect_of_joined (s := { s with line := held s.line }) (decide_eq_true hj) m hm

/-- A stopped station takes no grant of its own STOP's service. -/
theorem exec_stopStation_own (hj : s.member.station = .joined) (hq : QueueKept s)
    (h : takesStop own s n (some s.number)) :
    exec (.stopStation n s.number) s
      = .next (stoppedOutcome (stopReported own s (some s.number) (applyStopStation s.limit s.pool s.number).1) false) := by
  obtain ⟨hnumber, -⟩ := ChannelWrites.stoppedOutcome
    (stopReported own s (some s.number) (applyStopStation s.limit s.pool s.number).1) false
  have hothers : ∀ e ∈ (applyStopStation s.limit s.pool s.number).2, e.station
      ≠ (stoppedOutcome (stopReported own s (some s.number) (applyStopStation s.limit s.pool s.number).1) false).number := by
    rw [hnumber]
    exact stopStation_grants_others s.limit s.pool s.number
  have hnone := grantOutcomes_of_others hothers
  refine (acceptFrame_taken rfl (part_of_takesStop h)).trans (congrArg _ (Eq.trans ?_ hnone))
  rw [← stopReported_eq hq h]
  exact stopStationEffect_of_own (s := { s with line := held s.line }) (decide_eq_true hj)

/-- A STOP for ALL leaves no claim to serve. -/
theorem applyStopAll_pool (limit : Nat) (p : Pool) :
    (applyStopAll limit p).1 = { mapRows p (fun _ r => clearTotals r) with waitList := [] } := by
  simp only [applyStopAll, serve, serveList]

theorem clearTotals_eq (r : Row) : clearTotals r = { r with totals := #v[0, 0, 0, 0] } := rfl

theorem applyStopAll_empties (limit : Nat) (p : Pool) :
    (applyStopAll limit p).1.waitList = [] ∧ (applyStopAll limit p).1.level = p.level
      ∧ ∀ m : StationNo, (applyStopAll limit p).1.rows[m] = { p.rows[m] with totals := #v[0, 0, 0, 0] } := by
  rw [applyStopAll_pool]
  refine ⟨rfl, ?_, fun m => ?_⟩
  · simp only [level_mapRows]
  · simp only [row_mapRows, clearTotals_eq]

/-- Settles O29: the two commands, the sweep of a stopped station, and the grants told where another is stopped. -/
theorem stopEmptiesRows : Obligations.StopEmptiesRows := by
  intro own n target s c hj hq hfit hhead hpart
  have htakes : takesStop own s n target := hpart
  refine ⟨?_, ?_⟩
  · rintro m rfl hm
    have hn : ((stopReported own s (some m) (applyStopStation s.limit s.pool m).1).queue.entries.map Entry.owner).Nodup := by
      rw [stopReported, entries_afterStop]
      exact hq.slots.1
    have hexec := exec_stopStation_other hj hq htakes hm
    rw [grantOutcomes_eq _ hn hhead] at hexec
    exact hexec.trans (congrArg _ (toldGrants_beside (applyStopStation s.limit s.pool m).1 (held s.line)
      { s with queue := afterStop own s.queue (some m) } (applyStopStation s.limit s.pool m).2))
  · rintro (rfl | rfl)
    · have hstopped : StoppedAs own s none (applyStopAll s.limit s.pool).1
          (stoppedOutcome (stopReported own s none (applyStopAll s.limit s.pool).1) true) :=
        stoppedOutcome_stoppedAs hq hfit htakes _
      obtain ⟨hframe, hpool, hsweeps, hraises⟩ := hstopped
      refine ⟨_, exec_stopAll hj hq htakes, hframe, fun _ => ?_, fun h => absurd rfl h, hsweeps, hraises⟩
      rw [hpool]
      exact applyStopAll_empties s.limit s.pool
    · have hstopped : StoppedAs own s (some s.number) (applyStopStation s.limit s.pool s.number).1
          (stoppedOutcome (stopReported own s (some s.number) (applyStopStation s.limit s.pool s.number).1) false) :=
        stoppedOutcome_stoppedAs hq hfit htakes _
      obtain ⟨hframe, hpool, hsweeps, hraises⟩ := hstopped
      refine ⟨_, exec_stopStation_own hj hq htakes, hframe, fun h => absurd h (Option.some_ne_none _), fun _ => ?_, hsweeps, hraises⟩
      rw [hpool]
      rfl

end Sys2Proof.Machine
end

section
/-! Wait-list service (spec/04_claims_releases_and_the_wait_list.md R68): each head granted fits what is then free, the head left does
not, and the class totals rise by what is granted. -/

namespace Sys2Proof.Machine

open Sys2Proof.Obl

/-- Each head granted fits the units free once those before it are granted. -/
theorem serveList_fits (limit : Nat) (p : Pool) (w : List WaitEntry) {before after : List WaitEntry} {e : WaitEntry}
    (h : (serveList limit p w).2 = before ++ e :: after) :
    e.units ≤ limit - (poolSum p + (before.map WaitEntry.units).sum) := by
  induction w generalizing p before with
  | nil => simp [serveList] at h
  | cons d rest ih =>
    unfold serveList at h
    split at h
    · next hfit =>
      cases before with
      | nil =>
        obtain ⟨rfl, -⟩ := List.cons_eq_cons.mp h
        simpa [freeUnits] using hfit
      | cons b before =>
        obtain ⟨rfl, hrest⟩ := List.cons_eq_cons.mp h
        have hfits := ih _ hrest
        rw [poolSum_addUnits] at hfits
        rwa [List.map_cons, List.sum_cons, ← Nat.add_assoc]
    · simp at h

/-- Service stops at a head that does not fit. -/
theorem serveList_stops (limit : Nat) (p : Pool) (w : List WaitEntry) {e : WaitEntry} {rest : List WaitEntry}
    (h : (serveList limit p w).1.waitList = e :: rest) : limit - poolSum (serveList limit p w).1 < e.units := by
  induction w generalizing p with
  | nil => simp [serveList] at h
  | cons d later ih =>
    unfold serveList at h ⊢
    split at h
    · next hfit =>
      rw [if_pos hfit]
      exact ih _ h
    · next hfull =>
      obtain ⟨rfl, -⟩ := List.cons_eq_cons.mp h
      rw [if_neg hfull]
      simpa [freeUnits] using hfull

/-- Settles O21: service over the wait list, by induction on it. -/
theorem serviceGrantsHeadsThatFit : Obligations.ServiceGrantsHeadsThatFit := by
  intro limit p
  obtain ⟨hlevel, hpresence⟩ := serveList_frame limit p p.waitList
  refine ⟨serveList_split limit p p.waitList, fun _ _ _ => serveList_fits limit p p.waitList,
    fun _ _ => serveList_stops limit p p.waitList, fun n k => ?_, hpresence, hlevel⟩
  have hgranted : (fun e : WaitEntry => decide (n = e.station ∧ k = e.cls))
      = fun e => decide (e.station = n) && decide (e.cls = k) :=
    funext fun e => by simp [eq_comm]
  rw [← hgranted]
  exact total_serveList limit p p.waitList n k

end Sys2Proof.Machine
end

section
/-! CLAIM and RELEASE applied (spec/04_claims_releases_and_the_wait_list.md R58 to R67, R70; spec/06_output_channels.md R114 to R117): the
pool change by the table, the outcome of the own frame at its channel, and the grants of the service told after it. -/

namespace Sys2Proof.Machine

open Sys2Proof.Safety Sys2Proof.Obl

variable {own : Bool} {s : State} {n : StationNo} {c : ChanNo} {k : PriClass} {units : Nat} {g : GroupNo} {w : Bool}
  {f : ReleaseForm} {p : Pool}

/-! ### The grants of a service, beside the pool state and the line -/

theorem grantOutcomes_beside (hn : (s.queue.entries.map Entry.owner).Nodup) (hhead : HeadStarted s) (p : Pool) (l : Line)
    (grants : List WaitEntry) :
    grantOutcomes (besideChannels p l s) grants = besideChannels p l (toldGrants s grants) := by
  rw [← toldGrants_beside]
  exact grantOutcomes_eq grants hn hhead

/-- The report of a frame once the pool state has become `x` under the held line. -/
theorem reported_beside {fr : Frame} {o : Owner} (h : applies own s n fr o) (ho : o ≠ .shed) (x : Pool) :
    reportAccepted own (({ s with line := held s.line } : State).withPool x)
      = besideChannels x (held s.line) { s with queue := after own s o } :=
  reportAccepted_after (u := ({ s with line := held s.line } : State).withPool x) h.2.2.1 rfl ho (entry_of_applies h)

theorem ifJoined_of_applies {fr : Frame} {o : Owner} (h : applies own s n fr o) (t : State) :
    ifJoined own { s with line := held s.line } t = t := if_pos (decide_eq_true h.1)

/-! ### CLAIM by the table (R59 to R63) -/

/-- What the table tells, as the pool engine names it. -/
def verdictOf : Told → ClaimVerdict
  | .granted => .granted
  | .waiting => .waiting
  | .refused r => .refused r

theorem decideClaim_eq (limit : Nat) (p : Pool) (n : StationNo) (k : PriClass) (units : Nat) (w : Bool) :
    decideClaim limit p n k units w = verdictOf (told limit p n k units w) := by
  simp only [told, apply_ite verdictOf]
  rfl

/-- The change that the decision makes. -/
theorem applyVerdict_told (limit : Nat) (p : Pool) (n : StationNo) (c : ChanNo) (k : PriClass) (units : Nat) (g : GroupNo) (w : Bool) :
    applyVerdict p n c k units g (verdictOf (told limit p n k units w)) = claimChange limit p n c k units g w := by
  have hwaits : (if w = true ∧ p.waitList.length < 24 then { p with waitList := p.waitList ++ [⟨n, c, k, units, g⟩] } else p)
      = if w = true then (if p.waitList.length < 24 then { p with waitList := p.waitList ++ [⟨n, c, k, units, g⟩] } else p) else p :=
    ite_and _ _ _ _
  rw [claimChange, hwaits]
  simp only [told, apply_ite verdictOf, apply_ite (applyVerdict p n c k units g)]
  rfl

theorem removeEntry_of_fresh (h : isStale p n c = false) : removeEntry p n c = p := by
  have hlist : p.waitList.filter (fun e => !entryIs n c e) = p.waitList :=
    List.filter_eq_self.mpr fun e he => by
      rw [entryIs, Bool.eq_false_of_not_eq_true (List.any_eq_false.mp h e he)]
      rfl
  rw [removeEntry, hlist]

theorem applyClaim_eq (limit : Nat) (p : Pool) (n : StationNo) (c : ChanNo) (k : PriClass) (units : Nat) (g : GroupNo) (w : Bool) :
    applyClaim limit p n c k units g w
      = ((claimServed limit p n c k units g w).1, verdictOf (told limit (withoutEntry p n c) n k units w),
        (claimServed limit p n c k units g w).2) := by
  have hremoved : removeEntry p n c = withoutEntry p n c := rfl
  have hany : p.waitList.any (entryIs n c) = isStale p n c := rfl
  simp only [applyClaim, claimServed, hany, hremoved, decideClaim_eq, applyVerdict_told]
  split
  · rfl
  · next hfresh => rw [← hremoved, removeEntry_of_fresh (Bool.eq_false_of_not_eq_true hfresh)]

/-- CLAIM at a JOINED station: the own verdict is told first, and then the grants. -/
theorem exec_claim (h : applies own s n (.claim c k units g w) (.channel c)) :
    exec (.claim n c k units g w) s
      = .next (
        let r := claimServed s.limit s.pool n c k units g w
        let u := besideChannels r.1 (held s.line) { s with queue := after own s (.channel c) }
        grantOutcomes
          (if n = s.number then claimOutcome u c units g (verdictOf (told s.limit (withoutEntry s.pool n c) n k units w)) else u)
          r.2) := by
  refine (acceptFrame_taken h.2.1 (part_of_applies h)).trans (congrArg _ ?_)
  refine (ifJoined_of_applies h _).trans ?_
  simp only [applyClaim_eq, reported_beside h (show Owner.channel c ≠ .shed by simp)]
  rfl

/-- Settles O23: another's CLAIM tells this station nothing but the grants of the service. -/
theorem claimAppliedByTable : Obligations.ClaimAppliedByTable := by
  intro n c k units g w s happlies hn hhead
  have hexec := exec_claim happlies
  simp only [if_neg hn] at hexec
  exact hexec.trans (congrArg _ (grantOutcomes_beside (s := s) happlies.2.2.1.slots.1 hhead _ _ _))

/-! ### What a grant writes -/

theorem ChannelWrites.grantTo (s : State) (c : ChanNo) (units : Nat) (g : GroupNo) : ChannelWrites s (Obl.grantTo s c units g) := by
  unfold Obl.grantTo
  split
  · exact .refl s
  · split <;> exact .refl s

theorem ChannelWrites.grantFromList (s : State) (c : ChanNo) (units : Nat) (g : GroupNo) :
    ChannelWrites s (Obl.grantFromList s c units g) := by
  unfold Obl.grantFromList
  split
  · exact .grantTo s c units g
  · split <;> exact .refl s

theorem ChannelWrites.toldGrants (s : State) (w : List WaitEntry) : ChannelWrites s (Obl.toldGrants s w) := by
  induction w generalizing s with
  | nil => exact .refl s
  | cons e rest ih =>
    unfold Obl.toldGrants
    split
    · exact (ChannelWrites.grantFromList s _ _ _).trans (ih _)
    · exact ih s

/-! ### The own CLAIM told (R58, R114, R115, R116) -/

theorem headStarted_grantTo (h : HeadStarted s) (c : ChanNo) (units : Nat) (g : GroupNo) : HeadStarted (grantTo s c units g) := by
  unfold grantTo
  split
  · exact h
  · split
    · next hfree => exact fun _ _ => hfree.2.2
    · next hbusy => exact fun hspacing hlatch => absurd ⟨hspacing, hlatch, h hspacing hlatch⟩ hbusy

theorem queue_grantTo (s : State) (c : ChanNo) (units : Nat) (g : GroupNo) : (grantTo s c units g).queue = s.queue := by
  unfold grantTo
  split
  · rfl
  · split <;> rfl

theorem grantedOutcome_claiming (hs : (s.channel c).state = .claiming) (he : s.slotEmpty c = true) (hhead : HeadStarted s)
    (units : Nat) (g : GroupNo) : grantedOutcome s c units g false = grantTo s c units g := by
  simp only [grantedOutcome, hs, he, if_true]
  exact takeGrant_eq hhead c units g

theorem waitingOutcome_claiming (hs : (s.channel c).state = .claiming) (he : s.slotEmpty c = true) :
    waitingOutcome s c = { s with chan := putChannel s.chan c { s.channel c with state := .waiting } } := by
  simp only [waitingOutcome, hs, he, if_true]
  rfl

theorem refusedOutcome_claiming (hs : (s.channel c).state = .claiming) (he : s.slotEmpty c = true) (r : Reason) :
    refusedOutcome s c r = { flagged s [stoppedFlag c] with
      chan := putChannel s.chan c { s.channel c with state := .off, lastReason := some r } } := by
  simp only [refusedOutcome, hs, he, if_true]
  rfl

/-- A release placed at an emptied slot, with the channel's record replaced. -/
theorem place_setChannel (he : s.slotEmpty c = true) (x : Channel) (m : Content) :
    (s.setChannel c x).place (.channel c) m
      = { s with queue := placed s.queue (.channel c) m, chan := putChannel s.chan c x } := by
  rw [placed_eq_place (slotEmpty_iff.mp he)]
  rfl

theorem grantedOutcome_followUp (hs : (s.channel c).state = .releasing) (hf : (s.channel c).followUp = true)
    (he : s.slotEmpty c = true) (units : Nat) (g : GroupNo) :
    grantedOutcome s c units g false = { s with
      queue := placed s.queue (.channel c) (.release c (s.cfg c).cls units .full)
      chan := putChannel s.chan c { s.channel c with counted := units, followUp := false } } := by
  simp only [grantedOutcome, hs, hf, if_true]
  rw [placeFull, place_setChannel he, fullOf, State.channel_setChannel_self]
  rfl

theorem waitingOutcome_followUp (hs : (s.channel c).state = .releasing) (hf : (s.channel c).followUp = true)
    (he : s.slotEmpty c = true) :
    waitingOutcome s c = { s with
      queue := placed s.queue (.channel c) (.release c (s.cfg c).cls 0 .withdraw)
      chan := putChannel s.chan c { s.channel c with followUp := false } } := by
  simp only [waitingOutcome, hs, hf, if_true]
  rw [placeWithdraw, place_setChannel he]
  rfl

theorem refusedOutcome_followUp (hs : (s.channel c).state = .releasing) (hf : (s.channel c).followUp = true) (r : Reason) :
    refusedOutcome s c r = { s with
      chan := putChannel s.chan c { s.channel c with state := .off, lastReason := some r, followUp := false } } := by
  simp only [refusedOutcome, hs, hf, if_true]
  rfl

/-- The station with the slot of the own CLAIM emptied by its report (R46). -/
def slotReported (s : State) (c : ChanNo) : State := { s with queue := emptied s.queue (.channel c) }

theorem slotEmpty_reported (x : Pool) (l : Line) (s : State) (c : ChanNo) :
    (besideChannels x l (slotReported s c)).slotEmpty c = true :=
  slotEmpty_iff.mpr (entryOf_emptied_self s.queue (.channel c))

theorem nodup_placed (hn : (s.queue.entries.map Entry.owner).Nodup) (c : ChanNo) (m : Content) :
    ((placed (emptied s.queue (.channel c)) (.channel c) m).entries.map Entry.owner).Nodup := by
  rw [placed_eq_place (entryOf_emptied_self s.queue _)]
  exact nodup_place (nodup_emptied hn _) (entryOf_emptied_self s.queue _) m

/-- The own CLAIM, from what its verdict makes of the station; the grants are told to that. -/
theorem exec_ownClaim {t : State} (h : applies true s s.number (.claim c k units g w) (.channel c))
    (houtcome : ∀ x l, claimOutcome (besideChannels x l (slotReported s c)) c units g
      (verdictOf (told s.limit (withoutEntry s.pool s.number c) s.number k units w)) = besideChannels x l t)
    (hn : (t.queue.entries.map Entry.owner).Nodup) (hhead : HeadStarted t) :
    exec (.claim s.number c k units g w) s
      = .next { toldGrants t (claimServed s.limit s.pool s.number c k units g w).2 with
        pool := (claimServed s.limit s.pool s.number c k units g w).1, line := held s.line } := by
  have hexec := exec_claim h
  simp only [if_true] at hexec
  refine hexec.trans (congrArg _ ?_)
  rw [← besideChannels, ← grantOutcomes_beside hn hhead, ← houtcome]
  rfl

theorem ownClaimTold : OwnClaimTold := by
  intro c k units g w s happlies hs hhead r s1
  have hn : (s1.queue.entries.map Entry.owner).Nodup := nodup_emptied happlies.2.2.1.slots.1 _
  have hexec := @exec_ownClaim s c k units g w
  split
  · next hv =>
    refine hexec happlies (fun x l => ?_) (by rwa [queue_grantTo]) (headStarted_grantTo (s := s1) hhead c units g)
    rw [hv, ← grantTo_beside]
    exact grantedOutcome_claiming (s := besideChannels x l s1) hs (slotEmpty_reported x l s c) hhead units g
  · next hv =>
    refine hexec happlies (fun x l => ?_) hn hhead
    rw [hv]
    exact waitingOutcome_claiming (s := besideChannels x l s1) hs (slotEmpty_reported x l s c)
  · next why hv =>
    refine hexec happlies (fun x l => ?_) hn hhead
    rw [hv]
    exact refusedOutcome_claiming (s := besideChannels x l s1) hs (slotEmpty_reported x l s c) why

theorem ownClaimSettlesFollowUp : OwnClaimSettlesFollowUp := by
  intro c k units g w s happlies hs hf hhead r q
  have hn := happlies.2.2.1.slots.1
  have hexec := @exec_ownClaim s c k units g w
  split
  · next hv =>
    refine hexec happlies (fun x l => ?_) (nodup_placed hn c _) hhead
    rw [hv]
    exact grantedOutcome_followUp (s := besideChannels x l (slotReported s c)) hs hf (slotEmpty_reported x l s c) units g
  · next hv =>
    refine hexec happlies (fun x l => ?_) (nodup_placed hn c _) hhead
    rw [hv]
    exact waitingOutcome_followUp (s := besideChannels x l (slotReported s c)) hs hf (slotEmpty_reported x l s c)
  · next why hv =>
    refine hexec happlies (fun x l => ?_) (nodup_emptied hn _) hhead
    rw [hv]
    exact refusedOutcome_followUp (s := besideChannels x l (slotReported s c)) hs hf why

/-- Settles O53: the verdict told to the channel, and then the grants. -/
theorem ownClaimOutcomes : Obligations.OwnClaimOutcomes := ⟨ownClaimTold, ownClaimSettlesFollowUp⟩

/-! ### RELEASE (R65, R66, R67, R69) -/

/-- RELEASE at a JOINED station, in each form: the own outcome comes before the grants. -/
theorem exec_release (h : applies own s n (.release c k units f) (.channel c)) :
    exec (releaseCommand n c k units f) s
      = .next (
        let r := releaseServed s.limit s.pool n c k units f
        let u := besideChannels r.1 (held s.line) { s with queue := after own s (.channel c) }
        grantOutcomes (if n = s.number then releaseOutcome u c units f else u) r.2) := by
  have heffect : ∀ change : State → Pool × List WaitEntry,
      change { s with line := held s.line } = releaseServed s.limit s.pool n c k units f →
      releaseEffect change n c units f own { s with line := held s.line }
        = grantOutcomes (if n = s.number then
            releaseOutcome (besideChannels (releaseServed s.limit s.pool n c k units f).1 (held s.line)
              { s with queue := after own s (.channel c) }) c units f
          else besideChannels (releaseServed s.limit s.pool n c k units f).1 (held s.line)
              { s with queue := after own s (.channel c) }) (releaseServed s.limit s.pool n c k units f).2 := by
    intro change hchange
    refine (ifJoined_of_applies h _).trans ?_
    rw [hchange, reported_beside h (by simp)]
  have htaken := fun effect => acceptFrame_taken (effect := effect) h.2.1 (part_of_applies h)
  cases f with
  | trim => exact (htaken _).trans (congrArg _ (heffect _ rfl))
  | full => exact (htaken _).trans (congrArg _ (heffect _ rfl))
  | withdraw => exact (htaken _).trans (congrArg _ (heffect _ rfl))

theorem exec_otherRelease (hn : n ≠ s.number) (h : applies false s n (.release c k units f) (.channel c)) (hhead : HeadStarted s) :
    exec (releaseCommand n c k units f) s
      = .next (besideChannels (releaseServed s.limit s.pool n c k units f).1 (held s.line)
        (toldGrants s (releaseServed s.limit s.pool n c k units f).2)) := by
  have hexec := exec_release h
  simp only [if_neg hn] at hexec
  exact hexec.trans (congrArg _ (grantOutcomes_beside (s := s) h.2.2.1.slots.1 hhead _ _ _))

/-- Settles O24: another's RELEASE tells this station nothing but the grants of the service. -/
theorem releaseAppliedThenService : Obligations.ReleaseAppliedThenService :=
  fun _ _ _ _ _ _ hn happlies hhead => exec_otherRelease hn happlies hhead

/-! ### The own RELEASE (R67, R114, R117) -/

/-- The station with `left` units counted at a channel. -/
def loweredTo (s : State) (c : ChanNo) (left : Nat) : State :=
  { s with chan := putChannel s.chan c { s.channel c with counted := left } }

theorem channel_loweredTo (s : State) (c : ChanNo) (left : Nat) : (loweredTo s c left).channel c = { s.channel c with counted := left } :=
  channel_withRecord_self s c s.queue.entries _

theorem setChannel_loweredTo (s : State) (c : ChanNo) (left : Nat) (x : Channel) :
    (loweredTo s c left).setChannel c x = s.setChannel c x := by
  simp [loweredTo, State.setChannel, State.withChan, putChannel, Vector.set_set]

/-- A RELEASE lowers the count by its units, a WITHDRAW by none. -/
theorem releaseOutcome_lowers (s : State) (c : ChanNo) (units : Nat) (f : ReleaseForm) :
    releaseOutcome s c units f = afterRelease (loweredTo s c ((s.channel c).counted - if f = .withdraw then 0 else units)) c := by
  cases f with
  | trim => rfl
  | full => rfl
  | withdraw => exact congrArg (afterRelease · c) (withRecord_self s c).symm

/-- Units left are given back by a FULL, while the record is written otherwise. -/
theorem placeFull_setChannel (he : s.slotEmpty c = true) (x : Channel) :
    placeFull (s.setChannel c x) c = { s with
      queue := placed s.queue (.channel c) (.release c (s.cfg c).cls x.counted .full), chan := putChannel s.chan c x } := by
  rw [placeFull, place_setChannel he, fullOf, State.channel_setChannel_self]
  rfl

theorem afterRelease_releasing (he : s.slotEmpty c = true) (hs : (s.channel c).state = .releasing) (left : Nat) :
    afterRelease (loweredTo s c left) c = { s with
      queue := if left = 0 then s.queue else placed s.queue (.channel c) (.release c (s.cfg c).cls left .full)
      chan := putChannel s.chan c
        { s.channel c with counted := left, followUp := false, state := if left = 0 then .off else .releasing } } := by
  have hslot : (loweredTo s c left).slotEmpty c = true := he
  simp only [afterRelease, channel_loweredTo, hs, hslot, Bool.or_true, if_true, setChannel_loweredTo, placeFull_setChannel he]
  by_cases hleft : left = 0
  · rw [if_neg (by omega), if_pos hleft, if_pos hleft, State.updChannel, State.channel_setChannel_self]
    simp [State.setChannel, State.withChan, putChannel, Vector.set_set]
  · rw [if_pos (by omega), if_neg hleft, if_neg hleft, ← hs]

theorem afterRelease_faulted (he : s.slotEmpty c = true) (hs : (s.channel c).state = .faulted) (left : Nat) :
    afterRelease (loweredTo s c left) c = { s with
      queue := if left = 0 then s.queue else placed s.queue (.channel c) (.release c (s.cfg c).cls left .full)
      chan := putChannel s.chan c { s.channel c with counted := left, followUp := false } } := by
  have hslot : (loweredTo s c left).slotEmpty c = true := he
  simp only [afterRelease, channel_loweredTo, hs, hslot, Bool.or_true, if_true, setChannel_loweredTo, placeFull_setChannel he]
  by_cases hleft : left = 0
  · rw [if_neg (by omega), if_pos hleft]
    rfl
  · rw [if_pos (by omega), if_neg hleft]

/-- Any other channel keeps its state. -/
theorem afterRelease_other (hr : (s.channel c).state ≠ .releasing) (hf : (s.channel c).state ≠ .faulted) (left : Nat) :
    afterRelease (loweredTo s c left) c = loweredTo s c left := by
  simp only [afterRelease, channel_loweredTo]

theorem releaseOutcome_reported (s : State) (c : ChanNo) (units : Nat) (f : ReleaseForm) (x : Pool) (l : Line) :
    releaseOutcome (besideChannels x l (slotReported s c)) c units f
      = besideChannels x l (releasedBy s c (if f = .withdraw then 0 else units)) := by
  have he := slotEmpty_reported x l s c
  rw [releaseOutcome_lowers]
  generalize (if f = .withdraw then 0 else units) = lowered
  unfold releasedBy
  dsimp only
  split
  · next hs => exact afterRelease_releasing he hs _
  · next hs => exact afterRelease_faulted he hs _
  · next hr hf => exact afterRelease_other (s := besideChannels x l (slotReported s c)) hr hf _

theorem nodup_releasedBy (hn : (s.queue.entries.map Entry.owner).Nodup) (c : ChanNo) (units : Nat) :
    ((releasedBy s c units).queue.entries.map Entry.owner).Nodup := by
  have hrest : ((if (s.channel c).counted - units = 0 then emptied s.queue (.channel c) else
      placed (emptied s.queue (.channel c)) (.channel c)
        (.release c (s.cfg c).cls ((s.channel c).counted - units) .full)).entries.map Entry.owner).Nodup := by
    split
    · exact nodup_emptied hn _
    · exact nodup_placed hn c _
  unfold releasedBy
  dsimp only
  split
  · exact hrest
  · exact hrest
  · exact nodup_emptied hn _

theorem headStarted_releasedBy (h : HeadStarted s) (c : ChanNo) (units : Nat) : HeadStarted (releasedBy s c units) := by
  unfold releasedBy
  dsimp only
  split <;> exact h

/-- Settles O25: the channel's outcome by its state, and then the grants. -/
theorem ownReleaseLowersChannel : Obligations.OwnReleaseLowersChannel := by
  intro c k units f s happlies hhead r
  have hexec := exec_release happlies
  simp only [if_true] at hexec
  refine hexec.trans (congrArg _ ?_)
  change grantOutcomes (releaseOutcome (besideChannels r.1 (held s.line) (slotReported s c)) c units f) r.2 = _
  rw [releaseOutcome_reported,
    grantOutcomes_beside (nodup_releasedBy happlies.2.2.1.slots.1 c _) (headStarted_releasedBy hhead c _)]
  rfl

end Sys2Proof.Machine
end

section
/-! GO applied (spec/04_claims_releases_and_the_wait_list.md R71; spec/06_output_channels.md R120;
spec/08_temperature_supply_and_station_clock.md R157): the channels ARMED in the group enter INRUSH one after
another, and the spacing timer restarts. -/

namespace Sys2Proof.Machine

open Sys2Proof.Safety Sys2Proof.Obl

variable {s t : State} {c : ChanNo} {l : List ChanNo}

/-! ### Channels that enter INRUSH (R120, R122) -/

/-- A channel's record once it has entered INRUSH. -/
def startedRecord (s : State) (c : ChanNo) : Channel :=
  { s.channel c with state := .inrush, inrushTimer := some (10 * (s.cfg c).inrushTime) }

theorem channel_enterInrush (s : State) (c d : ChanNo) :
    (enterInrush s c).channel d = if d = c then startedRecord s c else s.channel d := by
  rw [enterInrush, State.channel_raise]
  split
  · next h => rw [h, State.channel_updChannel_self]; rfl
  · next h => exact State.channel_updChannel_of_ne s h _

/-- The channels of `l` have entered INRUSH, and nothing else has changed. -/
structure Started (l : List ChanNo) (s t : State) : Prop where
  frame : t = { s with chan := { s.chan with channels := t.chan.channels }, port := { s.port with flags := t.port.flags } }
  records : ∀ d : ChanNo, t.channel d = if d ∈ l then startedRecord s d else s.channel d
  raises : Raises s t (l.map startedFlag)

theorem started_nil (s : State) : Started [] s s := ⟨rfl, fun _ => rfl, by simp [Raises]⟩

theorem Started.cons (h : Started l (enterInrush s c) t) : Started (c :: l) s t where
  frame := by
    rw [h.frame]
    rfl
  records := fun d => by
    have hrecord : startedRecord (enterInrush s c) d = startedRecord s d := by
      rw [startedRecord, channel_enterInrush]
      split
      · next hd => rw [hd]; rfl
      · rfl
    rw [h.records, hrecord, channel_enterInrush]
    by_cases hd : d = c
    · simp [hd]
    · simp [hd]
  raises := raises_append (flagged_raises (s.updChannel c _) [startedFlag c]) h.raises

theorem foldl_started (l : List ChanNo) (s : State) : Started l s (l.foldl enterInrush s) := by
  induction l generalizing s with
  | nil => exact started_nil s
  | cons c l ih => exact (ih (enterInrush s c)).cons

/-! ### GO (R71, R120, R157) -/

/-- The channels that a GO starts: the ARMED ones of the group, unless the latch is set. -/
def startsAtGo (s : State) (g : GroupNo) (c : ChanNo) : Bool :=
  decide ((s.channel c).state = .armed) && decide ((s.channel c).group = g) && !s.chan.latch

/-- The spacing timer after a GO. -/
def spacingAfterGo (s : State) : Option Nat :=
  if s.chan.latch = false ∧ 0 < s.settings.startSpacing then some s.settings.startSpacing else s.chan.spacing

/-- The station with the channels of a GO started. -/
def startedByGo (s : State) (g : GroupNo) : State := (allChannels.filter (startsAtGo s g)).foldl enterInrush s

theorem startedByGo_started (s : State) (g : GroupNo) : Started (allChannels.filter (startsAtGo s g)) s (startedByGo s g) :=
  foldl_started _ s

theorem spacing_startedByGo (s : State) (g : GroupNo) : (startedByGo s g).chan.spacing = s.chan.spacing := by
  rw [(startedByGo_started s g).frame]

theorem startedByGo_of_latch (h : s.chan.latch = true) (g : GroupNo) : startedByGo s g = s := by
  have hnone : allChannels.filter (startsAtGo s g) = [] := List.filter_eq_nil_iff.mpr fun c _ => by simp [startsAtGo, h]
  rw [startedByGo, hnone]
  rfl

theorem startedByGo_of_clear (h : s.chan.latch = false) (g : GroupNo) :
    startedByGo s g = (allChannels.filter (armedIn s g)).foldl enterInrush s := by
  have harmed : startsAtGo s g = armedIn s g := funext fun c => by simp [startsAtGo, armedIn, h]
  rw [startedByGo, harmed]

theorem goOutcome_eq (s : State) (g : GroupNo) :
    goOutcome s g = (startedByGo s g).withChan { (startedByGo s g).chan with spacing := spacingAfterGo s } := by
  have hkept : spacingAfterGo s = s.chan.spacing →
      (startedByGo s g).withChan { (startedByGo s g).chan with spacing := spacingAfterGo s } = startedByGo s g := by
    intro h
    rw [h, ← spacing_startedByGo s g]
    rfl
  cases hlatch : s.chan.latch with
  | true =>
    rw [hkept (if_neg (by simp [hlatch])), startedByGo_of_latch hlatch, goOutcome, if_neg (by simp [hlatch])]
  | false =>
    rw [goOutcome, if_pos hlatch, ← startedByGo_of_clear hlatch]
    dsimp only
    split
    · next hspacing => rw [spacingAfterGo, if_pos ⟨hlatch, hspacing⟩]
    · next hspacing => exact (hkept (if_neg fun h => hspacing h.2)).symm

theorem exec_goApplied {own : Bool} {n : StationNo} {g : GroupNo} (h : applies own s n (.go g) .go) :
    exec (.goApplied n g) s = .next (
      let u := goOutcome { s with line := held s.line, queue := after own s .go } g
      flagged (u.withMonitor { u.monitor with goTime := u.monitor.clock }) [5]) := by
  refine (acceptFrame_taken h.2.1 (part_of_applies h)).trans (congrArg _ ?_)
  refine (ifJoined_of_applies h _).trans ?_
  rw [reportAccepted_after (u := { s with line := held s.line }) h.2.2.1 rfl (by simp) (entry_of_applies h)]
  rfl

/-- Settles O27: the starts of the go outcome, and GO raised after them. -/
theorem goStartsArmedChannels : Obligations.GoStartsArmedChannels := by
  intro own n g s happlies starts
  have hexec := exec_goApplied happlies
  rw [goOutcome_eq] at hexec
  obtain ⟨hframe, hrecords, hraises⟩ := startedByGo_started { s with line := held s.line, queue := after own s .go } g
  generalize startedByGo { s with line := held s.line, queue := after own s .go } g = v at *
  refine ⟨_, hexec, ?_, ?_, ?_, rfl, fun c => (hrecords c).trans (if_congr (mem_filter_allChannels c) rfl rfl), ?_⟩
  · rw [hframe]
    rfl
  · rw [hframe]
    rfl
  · rw [hframe]
    rfl
  · refine raises_congr (raises_append hraises (flagged_raises v [5])) fun i => ?_
    rw [List.mem_append, List.mem_singleton, or_comm, List.mem_cons]
    rfl

end Sys2Proof.Machine
end

section
/-! JOIN and CENSUS at a member (spec/04_claims_releases_and_the_wait_list.md R70; spec/05_membership_and_census.md R84 to R99): the
effect by station state, and the grants of the service that a joined or a dropped row sets off. -/

namespace Sys2Proof.Machine

open Sys2Proof.Safety Sys2Proof.Obl

variable {own : Bool} {s u : State} {n : StationNo} {t : Terms} {o : Owner} {k : Content} {q : TxQueue} {h : CensusHeader} {m : Maps}

/-! ### What has no part in a grant: other slots and the membership -/

/-- What has no part in one grant has none in the grants of a service. -/
theorem toldGrants_map {φ : State → State}
    (hgrant : ∀ s c units g, grantFromList (φ s) c units g = φ (grantFromList s c units g))
    (hnumber : ∀ s, (φ s).number = s.number) (s : State) (w : List WaitEntry) : toldGrants (φ s) w = φ (toldGrants s w) := by
  induction w generalizing s with
  | nil => rfl
  | cons e rest ih => rw [toldGrants, toldGrants, hgrant, hnumber, ← ih, apply_ite φ]

theorem rewritten_place {p : Owner} (hp : p ≠ o) (q : TxQueue) (k j : Content) :
    rewritten (q.place o k) p j = (rewritten q p j).place o k := by
  have hslot : (rewritten q p j).entryOf o = none ↔ q.entryOf o = none := by
    simp only [TxQueue.entryOf_none, rewritten, List.mem_map]
    constructor
    · intro hnone e he ho
      refine hnone e ⟨e, he, if_neg fun hep => hp (hep.symm.trans ho)⟩ ho
    · rintro hnone _ ⟨e, he, rfl⟩
      split
      · exact hnone e he
      · exact hnone e he
  rw [TxQueue.place_eq, TxQueue.place_eq, if_congr hslot rfl rfl]
  split
  · simp [rewritten, hp.symm]
  · rfl

theorem grantTo_place (s : State) (o : Owner) (k : Content) (c : ChanNo) (units : Nat) (g : GroupNo) :
    grantTo (s.place o k) c units g = (grantTo s c units g).place o k := by
  unfold grantTo
  rw [apply_ite (State.place · o k), apply_ite (State.place · o k)]
  rfl

/-- A grant meets the channels' slots alone. -/
theorem grantFromList_place (ho : ∀ c : ChanNo, o ≠ .channel c) (s : State) (k : Content) (c : ChanNo) (units : Nat) (g : GroupNo) :
    grantFromList (s.place o k) c units g = (grantFromList s c units g).place o k := by
  have hslot : (s.place o k).queue.entryOf (.channel c) = s.queue.entryOf (.channel c) := entryOf_place_of_ne (ho c).symm
  have hpending : (s.place o k).pendingFrame c = s.pendingFrame c := by simp only [State.pendingFrame, hslot]
  have hfrozen : (s.place o k).queue.frozen (.channel c) = s.queue.frozen (.channel c) := by simp only [TxQueue.frozen, hslot]
  unfold grantFromList
  rw [hpending, hfrozen, grantTo_place, apply_ite (State.place · o k), apply_ite (State.place · o k), State.queue_place,
    rewritten_place (ho c).symm]
  rfl

theorem toldGrants_place (ho : ∀ c : ChanNo, o ≠ .channel c) (s : State) (k : Content) (w : List WaitEntry) :
    toldGrants (s.place o k) w = (toldGrants s w).place o k :=
  toldGrants_map (fun s => grantFromList_place ho s k) (fun _ => rfl) s w

theorem grantTo_withMember (x : Member) (s : State) (c : ChanNo) (units : Nat) (g : GroupNo) :
    grantTo (s.withMember x) c units g = (grantTo s c units g).withMember x := by
  unfold grantTo
  rw [apply_ite (State.withMember · x), apply_ite (State.withMember · x)]
  rfl

theorem grantFromList_withMember (x : Member) (s : State) (c : ChanNo) (units : Nat) (g : GroupNo) :
    grantFromList (s.withMember x) c units g = (grantFromList s c units g).withMember x := by
  unfold grantFromList
  rw [apply_ite (State.withMember · x), apply_ite (State.withMember · x), grantTo_withMember]
  rfl

theorem toldGrants_withMember (x : Member) (s : State) (w : List WaitEntry) :
    toldGrants (s.withMember x) w = (toldGrants s w).withMember x :=
  toldGrants_map (grantFromList_withMember x) (fun _ => rfl) s w

/-! ### JOIN (R84, R85, R86) -/

/-- The queue with a SNAPSHOT offered, where the membership slot is empty (R49). -/
theorem place_snapshot_eq (q : TxQueue) :
    q.place .membership .snapshot = if q.entryOf .membership = none then placed q .membership .snapshot else q :=
  TxQueue.place_eq q .membership .snapshot

theorem joinEffect_of_joined (hs : s.member.station = .joined) : joinEffect n t false s = memberJoin n t s := by
  simp only [joinEffect, hs]
  rfl

theorem memberJoin_equal (hn : n ≠ s.number) (ht : s.terms = some t) :
    memberJoin n t s = offerSnapshot (grantOutcomes (s.withPool (applyJoin s.limit s.pool n).1) (applyJoin s.limit s.pool n).2) := by
  rw [memberJoin, if_neg hn, if_pos ht]

theorem memberJoin_differs (hn : n ≠ s.number) (ht : s.terms ≠ some t) : memberJoin n t s = s.place .membership .snapshot := by
  rw [memberJoin, if_neg hn, if_neg ht, offerSnapshot]

theorem exec_join_heard (hf : frameInRange (.join t) = true) (h : hears s n (.join t)) :
    exec (.join n t) s = .next (joinEffect n t false { s with line := held s.line }) :=
  acceptFrame_taken (own := false) hf h

/-- The own JOIN of a JOINING station (R85). -/
theorem exec_join_own (hf : frameInRange (.join t) = true) (hq : QueueKept s) (hs : s.member.station = .joining)
    (h : ownFrame s n (.join t) .membership) :
    exec (.join n t) s = .next { s with
      line := held s.line, queue := emptied s.queue .membership
      member := { s.member with station := .syncing, syncCount := 0, syncTimer := some s.interval } } := by
  refine (acceptFrame_taken (own := true) hf h.1).trans (congrArg _ ?_)
  have hreport := reportAccepted_after (u := { s with line := held s.line }) (own := true) (o := .membership) hq rfl (by simp)
    fun _ => h.2
  have heffect : joinEffect n t true { s with line := held s.line }
      = enterSyncing (reportAccepted true { s with line := held s.line }) := by
    simp only [joinEffect, hs]
    rfl
  rw [heffect, hreport]
  rfl

/-- Settles O31: the effect by station state, after the line is held. -/
theorem joinAppliedByState : Obligations.JoinAppliedByState := by
  intro n t s hf hq
  refine ⟨exec_join_own hf hq, fun hs hhears => (exec_join_heard hf hhears).trans (congrArg _ ?_), fun hj hhears => ?_⟩
  · rcases hs with hs | hs <;> simp only [joinEffect, hs] <;> rfl
  · have hexec := exec_join_heard hf hhears
    rw [joinEffect_of_joined (s := { s with line := held s.line }) hj] at hexec
    intro q
    refine ⟨fun hn => ⟨_, hexec, ?_⟩, fun hn ht => ?_, fun hn ht hhead => ?_⟩
    · rw [memberJoin, if_pos hn]
      exact isolate_withLine_isolatedFrom (l := held s.line) (participating_of_joined hj) rfl .duplicate
    · rw [memberJoin_differs (s := { s with line := held s.line }) hn ht] at hexec
      exact hexec.trans (congrArg (fun x => Host.Outcome.next { s with line := held s.line, queue := x }) (place_snapshot_eq s.queue))
    · rw [memberJoin_equal (s := { s with line := held s.line }) hn ht] at hexec
      intro r
      refine hexec.trans (congrArg _ ?_)
      have hgrants := grantOutcomes_beside hq.slots.1 hhead r.1 (held s.line) r.2
      have hplaced : s.place .membership .snapshot = { s with queue := q } :=
        congrArg (fun x => { s with queue := x }) (place_snapshot_eq s.queue)
      rw [← hplaced, toldGrants_place (by simp)]
      exact congrArg (State.place · .membership .snapshot) hgrants

/-! ### A census that is accepted (R35, R46, R48) -/

theorem censusRole_elsewhere (hs : s.line.state ≠ .answering) : censusRole s n h = frameRole s n (.census h) := by
  unfold censusRole
  split
  · next hx _ => exact absurd hx hs
  · next hx _ => exact absurd hx hs
  · rfl

theorem censusRole_answering {a : Answer} (hs : s.line.state = .answering) (ha : s.line.answer = some a) (hn : a.sender = n)
    (hh : a.header = h) : censusRole s n h = if s.line.ownFrame.isSome then .own else .peer := by
  simp only [censusRole, hs, ha]
  exact if_pos ⟨hn, hh⟩

theorem censusRole_of_takes (ht : takesCensus own s n h) : censusRole s n h = if own then .own else .peer := by
  obtain ⟨hf, hpart⟩ := ht
  cases own with
  | true =>
    obtain ⟨-, -, hsends | ⟨a, hs, hown, ha, hn, hh⟩⟩ := hpart
    · rw [censusRole_elsewhere (by simp [hsends.1])]
      exact frameRole_of_sends hf hsends
    · rw [censusRole_answering hs ha hn hh, if_pos (Option.isSome_iff_ne_none.mpr hown)]
      rfl
  | false =>
    rcases hpart with hhears | ⟨a, hs, hown, ha, hn, hh⟩
    · have hs : s.line.state ≠ .answering := by rcases hhears with ⟨hs, -⟩ | ⟨hs, -⟩ | ⟨hs, -⟩ <;> simp [hs]
      rw [censusRole_elsewhere hs]
      exact frameRole_of_hears hf hhears
    · rw [censusRole_answering hs ha hn hh, hown]
      rfl

/-- While the CENSUS action is on the line, nothing else is, and no raise is deferred (R45, R53). -/
theorem unsent_of_censusSent (hq : QueueKept s) (hsent : s.queue.census.any (fun a => a.onLine) = true) :
    (∀ e ∈ s.queue.entries, e.onLine = false) ∧ s.queue.stop.any (fun a => a.onLine) = false
      ∧ s.queue.deferredRaise = false := by
  obtain ⟨hentries, hstop, hcensus, -, -⟩ := hq.carried
  rw [Option.any_eq_true] at hsent
  obtain ⟨a, ha, hon⟩ := hsent
  have hoffer : s.line.offer = some .census := (hcensus a ha hon).2
  have hunsent : ∀ e ∈ s.queue.entries, e.onLine = false := fun e he => Bool.eq_false_of_not_eq_true fun heon => by
    simpa [hoffer] using (hentries e he heon).2
  refine ⟨hunsent, ?_, Bool.eq_false_of_not_eq_true fun hd => ?_⟩
  · rw [Option.any_eq_false]
    exact fun b hb => Bool.eq_false_of_not_eq_true fun hbon => by simpa [hoffer] using (hstop b hb hbon).2
  · obtain ⟨e, he, -, heon⟩ := (frozen_iff hq.slots.1).mp (hq.owed.2 hd)
    simp [hunsent e he] at heon

theorem removeAccepted_census (hq : QueueKept s) (hsent : s.queue.census.any (fun a => a.onLine) = true) :
    removeAccepted s.queue = { s.queue with census := none } := by
  obtain ⟨hunsent, hstop, -⟩ := unsent_of_censusSent hq hsent
  have hentries : s.queue.entries.filter (fun e => !e.onLine) = s.queue.entries :=
    List.filter_eq_self.mpr fun e he => by simp [hunsent e he]
  simp [removeAccepted, hsent, hentries, hstop]

/-- The own action's report, and the withdrawal of a pending one. -/
theorem censusReported (hq : QueueKept s) (hsent : own = true → s.queue.census.any (fun a => a.onLine) = true)
    (hu : u.queue = s.queue) :
    (reportAccepted own u).withQueue (withdrawCensus (reportAccepted own u).queue) = { u with queue := afterCensus own s.queue } := by
  cases own with
  | false => exact congrArg u.withQueue ((withdrawCensus_eq u.queue).trans (congrArg censusWithdrawn hu))
  | true =>
    obtain ⟨-, -, hdeferred⟩ := unsent_of_censusSent hq (hsent rfl)
    have hreport : reportAccepted true u = { u with queue := { s.queue with census := none } } := by
      rw [reportAccepted, if_pos rfl, hu, removeAccepted_census hq (hsent rfl), settleRaise]
      exact if_neg (by simp [hdeferred])
    rw [hreport]
    rfl

theorem entries_afterCensus (own : Bool) (q : TxQueue) : (afterCensus own q).entries = q.entries := by
  cases own <;> rfl

/-- The station once the census's actions are settled. -/
def censusTaken (own : Bool) (s : State) : State := { s with line := held s.line, queue := afterCensus own s.queue }

theorem exec_census_joined (hj : s.member.station = .joined) (hq : QueueKept s) (ht : takesCensus own s n h) :
    exec (.census n h m) s = .next (memberCensus own (censusTaken own s) h m) := by
  have hsent : own = true → s.queue.census.any (fun a => a.onLine) = true := by
    rintro rfl
    exact ht.2.2.1
  have hexec : execCensus n h m s = .next (censusEffect h m own { s with line := held s.line }) := by
    rw [execCensus, censusRole_of_takes ht, ← enterHolding_eq]
    cases own <;> rfl
  refine hexec.trans (congrArg _ ?_)
  simp only [censusEffect, hj]
  rw [censusReported (u := { s with line := held s.line }) hq hsent rfl]
  rfl

/-! ### The steps of a census at a member (R95 to R97) -/

theorem mapCount_eq (x : BitVec 32) : mapCount x = bitCount x := List.countP_eq_length_filter

theorem voidCensus_iff : voidCensus h m = true ↔ isVoid h m := by simp [voidCensus, isVoid, mapCount_eq, and_assoc]

theorem minorityDissent_iff : minorityDissent h m n = true ↔ dissentsAlone h m n := by
  simp only [minorityDissent, dissentsAlone, mapCount_eq, mapBit, Bool.and_eq_true, decide_eq_true_eq, and_assoc]
  exact and_congr_right fun _ => and_comm

/-- A minority dissents in a census that is not void. -/
theorem not_dissentsAlone_of_void (hv : isVoid h m) : ¬ dissentsAlone h m n :=
  fun hd => absurd hv.2.2 (not_le.mpr hd.2.1)

/-- The station with its census timer restarted, which comes before the steps. -/
def censusRestarted (s : State) : State := s.withMember { s.member with censusTimer := some s.interval }

theorem memberCensus_dissents (hd : dissentsAlone h m s.number) : memberCensus own s h m = isolate (censusRestarted s) .dissent :=
  if_pos (minorityDissent_iff.mpr hd)

theorem memberCensus_void (hv : isVoid h m) :
    memberCensus own s h m = if own then isolate (censusRestarted s) .outvoted else censusRestarted s :=
  (if_neg (mt minorityDissent_iff.mp (not_dissentsAlone_of_void hv))).trans (if_pos (voidCensus_iff.mpr hv))

/-- A census that the station passes on to its own bit. -/
theorem memberCensus_valid (hd : ¬ dissentsAlone h m s.number) (hv : ¬ isVoid h m) :
    memberCensus own s h m
      = if mapBit m.joined s.number = false then isolate (censusRestarted s) .absent else memberCounts (censusRestarted s) h m :=
  (if_neg (mt minorityDissent_iff.mp hd)).trans (if_neg (mt voidCensus_iff.mp hv))

/-- Isolation after the census's actions are settled and its timer is restarted, as seen from before. -/
theorem censusTaken_isolatedFrom (hj : s.member.station = .joined) (own : Bool) (r : IsoReason) :
    IsolatedFrom r s (isolate (censusRestarted (censusTaken own s)) r) := by
  have hp : (censusRestarted (censusTaken own s)).participating = true := participating_of_joined hj
  exact isolate_isolatedFrom hp r

/-! ### Misses, drops and service (R98, R99) -/

theorem dropped_eq (joined : BitVec 32) (p : Pool) (i : StationNo) : dropped joined i p.rows[i] = dropsRow joined p i := rfl

theorem countMiss_eq (joined : BitVec 32) (i : StationNo) (r : Row) : countMiss joined i r = countedRow joined i r := by
  unfold countMiss countedRow dropped
  cases hp : r.present with
  | false => rfl
  | true =>
    cases hb : joined.getLsbD i.val with
    | true => rfl
    | false =>
      by_cases hm : r.misses < 3
      · simp [Config.maxMisses, hm, not_le.mpr hm]
      · simp [Config.maxMisses, hm, not_lt.mp hm, absentRow]
        rfl

theorem applyMisses_eq (limit : Nat) (p : Pool) (joined : BitVec 32) :
    applyMisses limit p joined
      = if (∃ i : StationNo, dropsRow joined p i = true) then serve limit (countedPool joined p) else (countedPool joined p, []) := by
  have hrows : countMiss joined = countedRow joined := funext fun i => funext fun r => countMiss_eq joined i r
  have hany : (List.finRange 32).any (fun i => dropped joined i p.rows[i]) = true ↔ ∃ i : StationNo, dropsRow joined p i = true := by
    simp only [List.any_eq_true, List.mem_finRange, true_and, dropped_eq]
  have hcounted : ({ mapRows p (countedRow joined) with
      waitList := p.waitList.filter fun e => !dropped joined e.station p.rows[e.station] } : Pool) = countedPool joined p := by
    simp only [countedPool, mapRows, dropped_eq]
  simp only [applyMisses, hrows, hcounted, hany]

/-- The pool state after a census that counts, and the entries that service grants in it. -/
def censusServed (limit : Nat) (p : Pool) (h : CensusHeader) (m : Maps) : Pool × List WaitEntry :=
  if h.mode = .asked then (p, [])
  else if (∃ i : StationNo, dropsRow m.joined p i = true) then serve limit (countedPool m.joined p)
  else (countedPool m.joined p, [])

theorem memberCounts_eq (s : State) (h : CensusHeader) (m : Maps) :
    memberCounts s h m
      = keepCensus (grantOutcomes (s.withPool (censusServed s.limit s.pool h m).1) (censusServed s.limit s.pool h m).2) m := by
  unfold memberCounts censusServed
  cases hm : h.mode with
  | asked => rfl
  | timed =>
    rw [if_neg (by decide), ← applyMisses_eq]

/-- The grants of a census, told beside the record that it leaves (R99). -/
theorem keepCensus_granted (hn : (s.queue.entries.map Entry.owner).Nodup) (hhead : HeadStarted s) (p : Pool) (l : Line) (x : Member)
    (w : List WaitEntry) :
    keepCensus (grantOutcomes (besideChannels p l (s.withMember x)) w) m
      = { toldGrants s w with
        line := l, pool := p, member := { x with lastCensus := m, silenceTimer := some (2 * s.interval) } } := by
  obtain ⟨-, -, hterms, -⟩ := ChannelWrites.toldGrants s w
  have hinterval : (toldGrants s w).interval = s.interval := by rw [State.interval, hterms, ← State.interval]
  rw [grantOutcomes_beside (s := s.withMember x) hn hhead, toldGrants_withMember, ← hinterval]
  rfl

theorem memberCounts_taken (hq : QueueKept s) (hhead : HeadStarted s) :
    memberCounts (censusRestarted (censusTaken own s)) h m
      = { toldGrants { s with queue := afterCensus own s.queue } (censusServed s.limit s.pool h m).2 with
        line := held s.line, pool := (censusServed s.limit s.pool h m).1
        member := { s.member with
          censusTimer := some s.interval, silenceTimer := some (2 * s.interval), lastCensus := m } } := by
  have hn : ((afterCensus own s.queue).entries.map Entry.owner).Nodup := by
    rw [entries_afterCensus]
    exact hq.slots.1
  rw [memberCounts_eq]
  exact keepCensus_granted (s := { s with queue := afterCensus own s.queue }) hn hhead (censusServed s.limit s.pool h m).1
    (held s.line) { s.member with censusTimer := some s.interval } (censusServed s.limit s.pool h m).2

/-- Settles O33: the steps in their order, each by the test that decides it. -/
theorem censusEvaluatedInOrder : Obligations.CensusEvaluatedInOrder := by
  intro own n h m s hj hq htakes
  have hexec := exec_census_joined (m := m) hj hq htakes
  refine ⟨fun hd => ⟨_, hexec, ?_⟩, fun hv hown => ⟨_, hexec, ?_⟩, fun hv hown => hexec.trans (congrArg _ ?_),
    fun hd hv hbit => ⟨_, hexec, ?_⟩, fun hd hv hbit hhead => ?_⟩
  · rw [memberCensus_dissents (s := censusTaken own s) hd]
    exact censusTaken_isolatedFrom hj own .dissent
  · rw [memberCensus_void hv, if_pos hown]
    exact censusTaken_isolatedFrom hj own .outvoted
  · rw [memberCensus_void hv, if_neg (by simp [hown])]
    rfl
  · have hclear : mapBit m.joined (censusTaken own s).number = false := hbit
    rw [memberCensus_valid (s := censusTaken own s) hd hv, if_pos hclear]
    exact censusTaken_isolatedFrom hj own .absent
  · have hset : ¬ mapBit m.joined (censusTaken own s).number = false := by simp [mapBit, censusTaken, hbit]
    rw [memberCensus_valid (s := censusTaken own s) hd hv, if_neg hset] at hexec
    exact hexec.trans (congrArg _ (memberCounts_taken hq hhead))

end Sys2Proof.Machine
end

section
/-! Several grants of one service (spec/04_claims_releases_and_the_wait_list.md R70; spec/06_output_channels.md R115, R121): each reaches
its own channel and no other, and those that may start do so in service order, as the spacing timer and the latch give. -/

namespace Sys2Proof.Machine

open Sys2Proof.Safety Sys2Proof.Obl

variable {s t u : State} {c d : ChanNo} {units : Nat} {g : GroupNo} {x : Channel} {e : WaitEntry} {l : List WaitEntry}

/-! ### One grant at its channel (R115, R121) -/

/-- No start holds up another one: the timer is stopped, the latch clear, and nobody waits (R121). -/
def startsFree (s : State) : Prop := s.chan.spacing = none ∧ s.chan.latch = false ∧ s.chan.startQueue = []

theorem grantTo_grouped (hg : g ≠ 0) : grantTo s c units g
    = { s with chan := putChannel s.chan c { s.channel c with state := .armed, counted := units, group := g } } := if_pos hg

theorem grantTo_started (h : startsFree s) : grantTo s c units 0
    = { flagged s [startedFlag c] with
      chan :=
        { putChannel s.chan c
            { s.channel c with
              state := .inrush, counted := units, group := 0, inrushTimer := some (10 * (s.cfg c).inrushTime) } with
          spacing := if 0 < s.settings.startSpacing then some s.settings.startSpacing else none } } :=
  (if_neg (by simp)).trans (if_pos h)

theorem grantTo_queued (h : ¬ startsFree s) : grantTo s c units 0
    = { s with
      chan :=
        { putChannel s.chan c { s.channel c with state := .startWait, counted := units, group := 0 } with
          startQueue := s.chan.startQueue ++ [c] } } :=
  (if_neg (by simp)).trans (if_neg h)

theorem channel_putChannel_self (hk : t.chan.channels = s.chan.channels.set c x) : t.channel c = x := by
  simp [State.channel, hk]

theorem channel_putChannel_of_ne (hd : d ≠ c) (hk : t.chan.channels = s.chan.channels.set c x) : t.channel d = s.channel d := by
  have hne : (c : Nat) ≠ d := fun h => hd (Fin.ext h.symm)
  simp [State.channel, hk, hne]

/-- A grant that is taken is counted in its group, and a grouped one arms the channel. -/
theorem channel_grantTo_self (s : State) (c : ChanNo) (units : Nat) (g : GroupNo) :
    ((grantTo s c units g).channel c).counted = units ∧ ((grantTo s c units g).channel c).group = g
      ∧ (g ≠ 0 → ((grantTo s c units g).channel c).state = .armed) := by
  by_cases hg : g = 0
  · subst hg
    by_cases h : startsFree s
    · rw [grantTo_started h, channel_putChannel_self rfl]
      simp
    · rw [grantTo_queued h, channel_putChannel_self rfl]
      simp
  · rw [grantTo_grouped hg, channel_putChannel_self rfl]
    simp

theorem channel_grantTo_of_ne (hd : d ≠ c) (units : Nat) (g : GroupNo) : (grantTo s c units g).channel d = s.channel d := by
  unfold grantTo
  split
  · exact channel_putChannel_of_ne hd rfl
  · split <;> exact channel_putChannel_of_ne hd rfl

/-- A grant raises STARTED or nothing. -/
theorem flag_grantTo {i : Fin 27} (h : s.port.flags[i] = true) (c : ChanNo) (units : Nat) (g : GroupNo) :
    (grantTo s c units g).port.flags[i] = true := by
  unfold grantTo
  split
  · exact h
  · split
    · exact (flagged_raises s [startedFlag c] i).trans (by rw [h, Bool.true_or])
    · exact h

/-! ### A grant from the wait list (R70, R115) -/

/-- One entry granted to this station. -/
def grantEntry (s : State) (e : WaitEntry) : State := grantFromList s e.channel e.units e.group

/-- A RELEASING channel whose WITHDRAW is unsent. -/
def withdraws (s : State) (c : ChanNo) : Prop :=
  (s.channel c).state = .releasing ∧ s.pendingFrame c = .withdraw ∧ s.queue.frozen (.channel c) = false

theorem grantEntry_waiting (h : (s.channel e.channel).state = .waiting) : grantEntry s e = grantTo s e.channel e.units e.group := if_pos h

theorem grantEntry_withdraws (h : withdraws s e.channel) : grantEntry s e = { s with
    queue := rewritten s.queue (.channel e.channel) (.release e.channel (s.cfg e.channel).cls e.units .full)
    chan := putChannel s.chan e.channel { s.channel e.channel with counted := e.units } } :=
  (if_neg (by simp [h.1])).trans (if_pos h)

theorem grantEntry_other (hw : (s.channel e.channel).state ≠ .waiting) (h : ¬ withdraws s e.channel) : grantEntry s e = s :=
  (if_neg hw).trans (if_neg h)

/-- What a grant can come to: it is taken, given back by a FULL, or it changes nothing. -/
theorem grantEntry_cases (s : State) (e : WaitEntry) :
    ((s.channel e.channel).state = .waiting ∧ grantEntry s e = grantTo s e.channel e.units e.group)
      ∨ ((s.channel e.channel).state ≠ .waiting
        ∧ ((grantEntry s e = { s with
              queue := rewritten s.queue (.channel e.channel) (.release e.channel (s.cfg e.channel).cls e.units .full)
              chan := putChannel s.chan e.channel { s.channel e.channel with counted := e.units } })
          ∨ grantEntry s e = s)) := by
  by_cases hw : (s.channel e.channel).state = .waiting
  · exact .inl ⟨hw, grantEntry_waiting hw⟩
  · by_cases h : withdraws s e.channel
    · exact .inr ⟨hw, .inl (grantEntry_withdraws h)⟩
    · exact .inr ⟨hw, .inr (grantEntry_other hw h)⟩

theorem settings_grantEntry (s : State) (e : WaitEntry) : (grantEntry s e).settings = s.settings := by
  obtain ⟨-, hsettings, -⟩ := ChannelWrites.grantFromList s e.channel e.units e.group
  exact hsettings

theorem flag_grantEntry {i : Fin 27} (hi : s.port.flags[i] = true) (e : WaitEntry) : (grantEntry s e).port.flags[i] = true := by
  rcases grantEntry_cases s e with ⟨-, h⟩ | ⟨-, h | h⟩
  · rw [h]
    exact flag_grantTo hi _ _ _
  · rw [h]
    exact hi
  · rwa [h]

theorem entryOf_rewritten (q : TxQueue) (o p : Owner) (k : Content) :
    (rewritten q o k).entryOf p = (q.entryOf p).map fun e => if e.owner = o then { e with content := k } else e := by
  simp only [TxQueue.entryOf, rewritten, List.find?_map]
  congr 1
  refine List.find?_congr fun e _ => ?_
  simp only [Function.comp]
  split <;> rfl

theorem entryOf_rewritten_of_ne {q : TxQueue} {o p : Owner} (hp : p ≠ o) (k : Content) : (rewritten q o k).entryOf p = q.entryOf p := by
  rw [entryOf_rewritten]
  cases hq : q.entryOf p with
  | none => rfl
  | some e => rw [Option.map_some, if_neg fun ho => hp ((TxQueue.entryOf_some hq).1.symm.trans ho)]

theorem content_rewritten_self {q : TxQueue} {o : Owner} (h : q.entryOf o ≠ none) (k : Content) :
    ((rewritten q o k).entryOf o).map Entry.content = some k := by
  rw [entryOf_rewritten]
  cases hq : q.entryOf o with
  | none => exact absurd hq h
  | some e => rw [Option.map_some, if_pos (TxQueue.entryOf_some hq).1, Option.map_some]

/-- A grant leaves every other channel as it was. -/
theorem agreesAt_grantEntry (hd : d ≠ e.channel) (s : State) : AgreesAt s (grantEntry s e) d := by
  obtain ⟨-, hsettings, -, -, -, -, hmonitor, -⟩ := ChannelWrites.grantFromList s e.channel e.units e.group
  refine ⟨?_, ?_, hsettings, hmonitor⟩
  · rcases grantEntry_cases s e with ⟨-, h⟩ | ⟨-, h | h⟩
    · rw [h, channel_grantTo_of_ne hd]
    · rw [h]
      exact channel_putChannel_of_ne hd rfl
    · rw [h]
  · rcases grantEntry_cases s e with ⟨-, h⟩ | ⟨-, h | h⟩
    · rw [h, queue_grantTo]
    · rw [h]
      exact entryOf_rewritten_of_ne (by simpa using hd) _
    · rw [h]

/-! ### Grants one after another -/

theorem toldGrants_eq_foldl (s : State) (w : List WaitEntry) :
    toldGrants s w = (w.filter fun e => decide (e.station = s.number)).foldl grantEntry s := by
  induction w generalizing s with
  | nil => rfl
  | cons e rest ih =>
    rw [toldGrants, ih]
    by_cases he : e.station = s.number
    · obtain ⟨hnumber, -⟩ := ChannelWrites.grantFromList s e.channel e.units e.group
      rw [if_pos he, List.filter_cons_of_pos (by simpa using he), List.foldl_cons, hnumber]
      rfl
    · rw [if_neg he, List.filter_cons_of_neg (by simpa using he)]

theorem AgreesAt.refl (s : State) (d : ChanNo) : AgreesAt s s d := ⟨rfl, rfl, rfl, rfl⟩

theorem AgreesAt.trans (h : AgreesAt s t d) (h' : AgreesAt t u d) : AgreesAt s u d :=
  ⟨h'.channel.trans h.channel, h'.slot.trans h.slot, h'.settings.trans h.settings, h'.monitor.trans h.monitor⟩

/-- A channel that is not named keeps its record and its slot. -/
theorem agreesAt_grants (hd : ∀ e ∈ l, e.channel ≠ d) (s : State) : AgreesAt s (l.foldl grantEntry s) d := by
  induction l generalizing s with
  | nil => exact .refl s d
  | cons e l ih =>
    have hhead := agreesAt_grantEntry (hd e List.mem_cons_self).symm s
    exact hhead.trans (ih (fun x hx => hd x (List.mem_cons_of_mem e hx)) _)

/-- A channel that is named once takes its grant as it was before the service, whatever came first, and keeps what it took. -/
theorem grants_reach (hl : (l.map WaitEntry.channel).Nodup) (he : e ∈ l) (s : State) :
    ∃ u, AgreesAt s u e.channel ∧ AgreesAt (grantEntry u e) (l.foldl grantEntry s) e.channel := by
  induction l generalizing s with
  | nil => exact absurd he List.not_mem_nil
  | cons x l ih =>
    obtain ⟨hx, hl⟩ := List.nodup_cons.mp hl
    rcases List.mem_cons.mp he with rfl | hel
    · exact ⟨s, .refl s _, agreesAt_grants (fun y hy hyx => hx (List.mem_map.mpr ⟨y, hy, hyx⟩)) _⟩
    · obtain ⟨u, hbefore, hafter⟩ := ih hl hel (grantEntry s x)
      exact ⟨u, (agreesAt_grantEntry (fun h => hx (List.mem_map.mpr ⟨e, hel, h⟩)) s).trans hbefore, hafter⟩

theorem flag_grants {i : Fin 27} (h : s.port.flags[i] = true) (l : List WaitEntry) : (l.foldl grantEntry s).port.flags[i] = true := by
  induction l generalizing s with
  | nil => exact h
  | cons e l ih => exact ih (flag_grantEntry h e)

/-! ### What a named channel takes (R70, R115) -/

theorem grants_waiting (hl : (l.map WaitEntry.channel).Nodup) (he : e ∈ l) (hs : (s.channel e.channel).state = .waiting) :
    ((l.foldl grantEntry s).channel e.channel).counted = e.units ∧ ((l.foldl grantEntry s).channel e.channel).group = e.group
      ∧ (e.group ≠ 0 → ((l.foldl grantEntry s).channel e.channel).state = .armed) := by
  obtain ⟨u, hbefore, hafter⟩ := grants_reach hl he s
  rw [hafter.channel, grantEntry_waiting (hbefore.channel ▸ hs)]
  exact channel_grantTo_self u e.channel e.units e.group

theorem grants_withdraws (hl : (l.map WaitEntry.channel).Nodup) (he : e ∈ l) (hs : withdraws s e.channel) :
    (l.foldl grantEntry s).channel e.channel = { s.channel e.channel with counted := e.units }
      ∧ ((l.foldl grantEntry s).queue.entryOf (.channel e.channel)).map Entry.content
        = some (.release e.channel (s.cfg e.channel).cls e.units .full) := by
  obtain ⟨u, hbefore, hafter⟩ := grants_reach hl he s
  have hu : withdraws u e.channel := by rwa [withdraws, hbefore.channel, hbefore.pendingFrame, hbefore.frozen]
  have hslot : u.queue.entryOf (.channel e.channel) ≠ none := fun hnone => by simpa [pending_of_empty hnone] using hu.2.1
  rw [hafter.channel, hafter.slot, grantEntry_withdraws hu, ← hbefore.channel, ← hbefore.cfg]
  exact ⟨channel_putChannel_self rfl, content_rewritten_self hslot _⟩

/-! ### The start queue (R121) -/

/-- A grant that lets its channel start: the channel waits, and it is in no group. -/
def startsBy (s : State) (e : WaitEntry) : Bool := decide ((s.channel e.channel).state = .waiting) && decide (e.group = 0)

theorem startsBy_of_agrees (h : AgreesAt s u e.channel) : startsBy u e = startsBy s e := by rw [startsBy, startsBy, h.channel]

/-- What starts later in the service is not changed by a grant before it. -/
theorem filter_startsBy_grantEntry (hl : ((e :: l).map WaitEntry.channel).Nodup) :
    l.filter (startsBy (grantEntry s e)) = l.filter (startsBy s) := by
  obtain ⟨he, -⟩ := List.nodup_cons.mp hl
  exact List.filter_congr fun x hx => startsBy_of_agrees (agreesAt_grantEntry (fun h => he (List.mem_map.mpr ⟨x, hx, h⟩)) s)

theorem grantEntry_starts (h : startsBy s e = true) : grantEntry s e = grantTo s e.channel e.units 0 := by
  obtain ⟨hw, hg⟩ := Bool.and_eq_true_iff.mp h
  rw [grantEntry_waiting (of_decide_eq_true hw), of_decide_eq_true hg]

/-- The timer, the latch and the start queue are as they were. -/
def StartsKept (s t : State) : Prop :=
  t.chan.startQueue = s.chan.startQueue ∧ t.chan.spacing = s.chan.spacing ∧ t.chan.latch = s.chan.latch

theorem startsKept_of_not_starts (h : ¬ startsBy s e = true) : StartsKept s (grantEntry s e) := by
  rcases grantEntry_cases s e with ⟨hw, heq⟩ | ⟨-, heq | heq⟩
  · have hg : e.group ≠ 0 := fun hg => h (by simp [startsBy, hw, hg])
    rw [heq, grantTo_grouped hg]
    exact ⟨rfl, rfl, rfl⟩
  · rw [heq]
    exact ⟨rfl, rfl, rfl⟩
  · rw [heq]
    exact ⟨rfl, rfl, rfl⟩

/-- A start that is held up joins the tail of the queue. -/
theorem grantEntry_queued (h : startsBy s e = true) (hbusy : ¬ startsFree s) :
    (grantEntry s e).chan.startQueue = s.chan.startQueue ++ [e.channel] ∧ (grantEntry s e).chan.spacing = s.chan.spacing
      ∧ (grantEntry s e).chan.latch = s.chan.latch ∧ ((grantEntry s e).channel e.channel).state = .startWait := by
  rw [grantEntry_starts h, grantTo_queued hbusy]
  exact ⟨rfl, rfl, rfl, by simp [State.channel, putChannel]⟩

/-- A start that nothing holds up happens at once, and starts the spacing timer where the spacing is above 0. -/
theorem grantEntry_started (h : startsBy s e = true) (hfree : startsFree s) :
    (grantEntry s e).chan.startQueue = []
      ∧ (grantEntry s e).chan.spacing = (if 0 < s.settings.startSpacing then some s.settings.startSpacing else none)
      ∧ (grantEntry s e).chan.latch = false ∧ ((grantEntry s e).channel e.channel).state = .inrush
      ∧ (grantEntry s e).port.flags[startedFlag e.channel] = true := by
  rw [grantEntry_starts h, grantTo_started hfree]
  refine ⟨hfree.2.2, rfl, hfree.2.1, by simp [State.channel, putChannel], ?_⟩
  exact (flagged_raises s [startedFlag e.channel] _).trans (by simp)

theorem channel_after_grant (hl : ((e :: l).map WaitEntry.channel).Nodup) (s : State) :
    (l.foldl grantEntry s).channel e.channel = s.channel e.channel := by
  obtain ⟨he, -⟩ := List.nodup_cons.mp hl
  exact (agreesAt_grants (fun x hx h => he (List.mem_map.mpr ⟨x, hx, h⟩)) s).channel

/-- While the timer runs or the latch is set, every start waits, in service order. -/
theorem grants_queued (hl : (l.map WaitEntry.channel).Nodup) (hbusy : s.chan.spacing ≠ none ∨ s.chan.latch = true) :
    (l.foldl grantEntry s).chan.startQueue = s.chan.startQueue ++ (l.filter (startsBy s)).map WaitEntry.channel
      ∧ (l.foldl grantEntry s).chan.spacing = s.chan.spacing
      ∧ ∀ e ∈ l.filter (startsBy s), ((l.foldl grantEntry s).channel e.channel).state = .startWait := by
  induction l generalizing s with
  | nil => simp
  | cons x l ih =>
    have hrest := filter_startsBy_grantEntry (s := s) hl
    have htail := (List.nodup_cons.mp hl).2
    have hnotFree : ¬ startsFree s := fun h => hbusy.elim (fun hs => hs h.1) fun hlatch => by simp [h.2.1] at hlatch
    by_cases hx : startsBy s x = true
    · obtain ⟨hqueue, hspacing, hlatch, hstate⟩ := grantEntry_queued hx hnotFree
      obtain ⟨hqueues, hspacings, hstates⟩ := ih (s := grantEntry s x) htail (by rwa [hspacing, hlatch])
      rw [List.foldl_cons, List.filter_cons_of_pos hx, hqueues, hspacings, hqueue, hspacing, hrest]
      rw [hrest] at hstates
      refine ⟨by simp, rfl, fun e he => ?_⟩
      rcases List.mem_cons.mp he with rfl | he
      · rw [channel_after_grant hl, hstate]
      · exact hstates e he
    · obtain ⟨hqueue, hspacing, hlatch⟩ := startsKept_of_not_starts hx
      have hkept := ih (s := grantEntry s x) htail (by rwa [hspacing, hlatch])
      rwa [hrest, hqueue, hspacing, ← List.filter_cons_of_neg hx] at hkept

/-- Without start spacing every start happens at once. -/
theorem grants_unspaced (hl : (l.map WaitEntry.channel).Nodup) (hfree : startsFree s) (hzero : s.settings.startSpacing = 0) :
    (l.foldl grantEntry s).chan.startQueue = [] ∧ (l.foldl grantEntry s).chan.spacing = none
      ∧ ∀ e ∈ l.filter (startsBy s), ((l.foldl grantEntry s).channel e.channel).state = .inrush
        ∧ (l.foldl grantEntry s).port.flags[startedFlag e.channel] = true := by
  induction l generalizing s with
  | nil => exact ⟨hfree.2.2, hfree.1, by simp⟩
  | cons x l ih =>
    have hrest := filter_startsBy_grantEntry (s := s) hl
    have htail := (List.nodup_cons.mp hl).2
    have hsettings : (grantEntry s x).settings.startSpacing = 0 := by rw [settings_grantEntry, hzero]
    by_cases hx : startsBy s x = true
    · obtain ⟨hqueue, hspacing, hlatch, hstate, hflag⟩ := grantEntry_started hx hfree
      rw [hzero] at hspacing
      obtain ⟨hqueues, hspacings, hstarts⟩ := ih (s := grantEntry s x) htail ⟨hspacing, hlatch, hqueue⟩ hsettings
      rw [hrest] at hstarts
      refine ⟨hqueues, hspacings, fun e he => ?_⟩
      rw [List.filter_cons_of_pos hx] at he
      rcases List.mem_cons.mp he with rfl | he
      · exact ⟨(congrArg Channel.state (channel_after_grant hl _)).trans hstate, flag_grants hflag l⟩
      · exact hstarts e he
    · obtain ⟨hqueue, hspacing, hlatch⟩ := startsKept_of_not_starts hx
      have hkept := ih (s := grantEntry s x) htail ⟨hspacing.trans hfree.1, hlatch.trans hfree.2.1, hqueue.trans hfree.2.2⟩ hsettings
      rwa [hrest, ← List.filter_cons_of_neg hx] at hkept

/-- With start spacing the first start happens at once, and the later ones wait in service order. -/
theorem grants_spaced {first : WaitEntry} {later : List WaitEntry} (hl : (l.map WaitEntry.channel).Nodup) (hfree : startsFree s)
    (hpos : 0 < s.settings.startSpacing) (hstarts : l.filter (startsBy s) = first :: later) :
    (l.foldl grantEntry s).chan.startQueue = later.map WaitEntry.channel
      ∧ (l.foldl grantEntry s).chan.spacing = some s.settings.startSpacing
      ∧ ((l.foldl grantEntry s).channel first.channel).state = .inrush
      ∧ (l.foldl grantEntry s).port.flags[startedFlag first.channel] = true
      ∧ ∀ e ∈ later, ((l.foldl grantEntry s).channel e.channel).state = .startWait := by
  induction l generalizing s with
  | nil => simp at hstarts
  | cons x l ih =>
    have hrest := filter_startsBy_grantEntry (s := s) hl
    have htail := (List.nodup_cons.mp hl).2
    by_cases hx : startsBy s x = true
    · rw [List.filter_cons_of_pos hx] at hstarts
      obtain ⟨rfl, hlater⟩ := List.cons_eq_cons.mp hstarts
      obtain ⟨hqueue, hspacing, -, hstate, hflag⟩ := grantEntry_started hx hfree
      rw [if_pos hpos] at hspacing
      obtain ⟨hqueues, hspacings, hwaits⟩ := grants_queued (s := grantEntry s x) htail (.inl (by simp [hspacing]))
      rw [hrest, hlater] at hqueues hwaits
      rw [hqueue, List.nil_append] at hqueues
      exact ⟨hqueues, hspacings.trans hspacing, (congrArg Channel.state (channel_after_grant hl _)).trans hstate, flag_grants hflag l,
        hwaits⟩
    · obtain ⟨hqueue, hspacing, hlatch⟩ := startsKept_of_not_starts hx
      rw [List.filter_cons_of_neg hx, ← hrest] at hstarts
      have hsettings := settings_grantEntry s x
      have hkept := ih (s := grantEntry s x) htail ⟨hspacing.trans hfree.1, hlatch.trans hfree.2.1, hqueue.trans hfree.2.2⟩
        (by rwa [hsettings]) hstarts
      rwa [hsettings] at hkept

/-- Settles O26: the grants of another's RELEASE, each at its channel, and the starts among them by the timer and the latch. -/
theorem waitListGrantReachesChannel : Obligations.WaitListGrantReachesChannel := by
  intro n c k units f s hn happlies hhead r own starts hl
  have hexec := exec_otherRelease hn happlies hhead
  rw [toldGrants_eq_foldl] at hexec
  have hunsent := (unsent_of_hears happlies.2.2.1 (part_of_applies happlies)).1
  refine ⟨_, hexec, rfl, fun d hd => ?_, fun e he => grants_waiting hl he, fun e he hs hp => grants_withdraws hl he ⟨hs, hp, ?_⟩,
    grants_queued hl, fun hspacing hlatch => grants_unspaced hl ⟨hspacing, hlatch, hhead hspacing hlatch⟩,
    fun first later hspacing hlatch => grants_spaced hl ⟨hspacing, hlatch, hhead hspacing hlatch⟩⟩
  · have hagrees := agreesAt_grants hd s
    exact ⟨hagrees.channel, hagrees.slot⟩
  · refine Bool.eq_false_of_not_eq_true fun hfrozen => ?_
    obtain ⟨d, hd, -, hon⟩ := (frozen_iff happlies.2.2.1.slots.1).mp hfrozen
    simp [hunsent d hd] at hon

end Sys2Proof.Machine
end

section
/-! Outside the pool (spec/05_membership_and_census.md R83, R90 to R92, R99, R100, R105; spec/10_host_requests.md R172): how a station
enters JOINING, and what a census makes of a station that is not a member. -/

namespace Sys2Proof.Machine

open Sys2Proof.Safety Sys2Proof.Obl

variable {own : Bool} {s : State} {n : StationNo} {t : Terms} {h : CensusHeader} {m : Maps}

/-! ### Entering JOINING (R83, R105, R172) -/

theorem not_participating_of_ready_or_isolated (hs : s.member.station = .ready ∨ s.member.station = .isolated) :
    s.participating = false := by
  rcases hs with hs | hs <;> rw [State.participating, hs] <;> rfl

/-- The JOIN finds its slot empty, as every other (R56). -/
theorem enterJoining_eq (hq : s.queue = emptyQueue) (ht : s.terms = some t) : enterJoining s = joiningFrom s t := by
  have hplaced : s.queue.place .membership (.join s.termsHeld) = ⟨[⟨.membership, .join t, 0, false⟩], none, false, none, false⟩ := by
    rw [hq, State.termsHeld, ht]
    rfl
  exact congrArg (fun q => { joiningFrom s t with queue := q }) hplaced

theorem execStart_refused (hc : s.port.awaitCsn = false) (hready : s.member.station ≠ .ready)
    (hisolated : s.member.station ≠ .isolated) : execStart s = .next (replied s .state 0) := by
  rw [execStart, request_counted hc, if_neg (not_or.mpr ⟨hready, hisolated⟩)]
  exact refuse_replied s .state

theorem execStart_taken (hc : s.port.awaitCsn = false) (hs : s.member.station = .ready ∨ s.member.station = .isolated)
    (hjoins : enterJoining s = joiningFrom s t) :
    execStart s = .next { joiningFrom s t with port := (replied s .accepted 0).port } := by
  rw [execStart, request_counted hc, if_pos hs, hjoins]
  exact congrArg _ (answered_eq s (joiningFrom s t) .accepted 0)

theorem execRejoinTimerExpiry_running {p : Nat} (hs : s.member.station = .isolated) (hp : s.member.rejoinTimer = some p) :
    execRejoinTimerExpiry s = .next (enterJoining s) := by
  rw [execRejoinTimerExpiry, if_pos ⟨by simp [hp], hs⟩]

/-- Settles O6: START and the expiry both come to `enterJoining`, which meets R56's empty queue. -/
theorem startAndRejoinEnterJoining : Obligations.StartAndRejoinEnterJoining := by
  intro s hempty
  refine ⟨execStart_refused, fun t ht => ?_⟩
  have hjoins (hs : s.member.station = .ready ∨ s.member.station = .isolated) : enterJoining s = joiningFrom s t :=
    enterJoining_eq (hempty (not_participating_of_ready_or_isolated hs)) ht
  exact ⟨fun hc hs => execStart_taken hc hs (hjoins hs),
    fun p hs hp => (execRejoinTimerExpiry_running hs hp).trans (congrArg _ (hjoins (.inr hs)))⟩

/-! ### A census that is accepted, whatever the station state (R35, R48, R100) -/

theorem exec_census_taken (ht : takesCensus own s n h) :
    exec (.census n h m) s = .next (censusEffect h m own { s with line := held s.line }) := by
  change execCensus n h m s = _
  rw [execCensus, censusRole_of_takes ht, ← enterHolding_eq]
  cases own <;> rfl

theorem censusWithdrawn_of_none {q : TxQueue} (hnone : q.census = none) : censusWithdrawn q = q := by
  obtain ⟨entries, stop, owed, census, deferred⟩ := q
  cases hnone
  rfl

theorem exec_census_joining (hs : s.member.station = .joining) (hnone : s.queue.census = none) (ht : takesCensus false s n h) :
    exec (.census n h m) s = .next { s with line := held s.line } := by
  have hqueue : withdrawCensus s.queue = s.queue :=
    (withdrawCensus_eq s.queue).trans (censusWithdrawn_of_none hnone)
  refine (exec_census_taken ht).trans (congrArg _ ?_)
  simp only [censusEffect, hs]
  exact congrArg (fun q => ({ s with line := held s.line, queue := q } : State)) hqueue

theorem exec_census_syncing (hs : s.member.station = .syncing) (hq : QueueKept s) (ht : takesCensus own s n h) :
    exec (.census n h m) s = .next (syncingCensus (censusTaken own s) h m) := by
  have hsent : own = true → s.queue.census.any (fun a => a.onLine) = true := by
    rintro rfl
    exact ht.2.2.1
  refine (exec_census_taken ht).trans (congrArg _ ?_)
  simp only [censusEffect, hs]
  rw [censusReported (u := { s with line := held s.line }) hq hsent rfl]
  rfl

/-! ### The branches of a census at a SYNCING station (R90, R91, R92, R96, R99) -/

/-- The station with its sync timer restarted, which comes first, whatever the census decides. -/
def syncRestarted (s : State) : State := s.withMember { s.member with syncTimer := some s.interval }

/-- The maps of a census are kept, once its sync timer is restarted. -/
def syncRecorded (s : State) (m : Maps) : State :=
  s.withMember { s.member with syncTimer := some s.interval, lastCensus := m }

theorem syncingCensus_void (hv : isVoid h m) : syncingCensus s h m = syncRestarted s := if_pos (voidCensus_iff.mpr hv)

theorem foundedPool_eq (syncing : BitVec 32) :
    foundedPool syncing
      = { level := 0, waitList := [], rows := Vector.ofFn fun r => ⟨syncing.getLsbD r.val, 0, #v[0, 0, 0, 0]⟩ } := by
  have hrow (r : StationNo) : (if syncing.getLsbD r.val then freshRow else absentRow) = ⟨syncing.getLsbD r.val, 0, #v[0, 0, 0, 0]⟩ := by
    cases syncing.getLsbD r.val <;> rfl
  simp only [foundedPool, mapRows, hrow]
  rfl

theorem found_eq (s : State) (m : Maps) :
    found s m = { flagged s [1] with
      member := { joinedFrom s with lastCensus := m }
      pool := { level := 0, waitList := [], rows := Vector.ofFn fun r => ⟨m.syncing.getLsbD r.val, 0, #v[0, 0, 0, 0]⟩ } } := by
  rw [found, foundedPool_eq]
  rfl

/-- A station whose own syncing bit a census without members shows founds the pool (R91, R92). -/
theorem syncingCensus_founds (hv : ¬ isVoid h m) (hj : m.joined = 0) (hbit : m.syncing.getLsbD s.number.val = true) :
    syncingCensus s h m = found (syncRestarted s) m :=
  (if_neg (mt voidCensus_iff.mp hv)).trans ((if_pos hj).trans (if_pos hbit))

theorem syncingCensus_memberless (hv : ¬ isVoid h m) (hj : m.joined = 0) (hbit : m.syncing.getLsbD s.number.val = false) :
    syncingCensus s h m = syncRecorded s m :=
  (if_neg (mt voidCensus_iff.mp hv)).trans ((if_pos hj).trans (if_neg (Bool.eq_false_iff.mp hbit)))

theorem syncingCensus_counts (hv : ¬ isVoid h m) (hj : m.joined ≠ 0) (hcount : s.member.syncCount < 2) :
    syncingCensus s h m = (syncRecorded s m).withMember { (syncRecorded s m).member with syncCount := s.member.syncCount + 1 } :=
  (if_neg (mt voidCensus_iff.mp hv)).trans ((if_neg hj).trans (if_pos hcount))

/-- The third census with members in it (R100). -/
theorem syncingCensus_isolates (hv : ¬ isVoid h m) (hj : m.joined ≠ 0) (hcount : s.member.syncCount = 2) :
    syncingCensus s h m = isolate (syncRecorded s m) .noSnapshot :=
  (if_neg (mt voidCensus_iff.mp hv)).trans ((if_neg hj).trans (if_neg (not_lt.mpr hcount.ge)))

theorem participating_of_syncing (hs : s.member.station = .syncing) : s.participating = true := by
  rw [State.participating, hs]
  rfl

/-- Isolation after the census's actions are settled and its maps kept, as seen from a station that has kept the maps alone. -/
theorem syncRecorded_isolatedFrom (hs : s.member.station = .syncing) (own : Bool) (m : Maps) (r : IsoReason) :
    IsolatedFrom r { s with member := { s.member with lastCensus := m } } (isolate (syncRecorded (censusTaken own s) m) r) := by
  have hp : (syncRecorded (censusTaken own s) m).participating = true := participating_of_syncing hs
  exact isolate_isolatedFrom hp r

/-- Settles O34: the void census, the founding one and the count, each by the test that decides it. -/
theorem censusAtSyncingStation : Obligations.CensusAtSyncingStation := by
  intro own n h m s hq htakes
  refine ⟨fun hjoining hown hnone => exec_census_joining hjoining hnone (hown ▸ htakes), fun hs => ?_⟩
  have hexec := exec_census_syncing (m := m) hs hq htakes
  refine ⟨fun hv => hexec.trans (congrArg _ (syncingCensus_void hv)),
    fun hv hj hbit => hexec.trans (congrArg _ ((syncingCensus_founds (s := censusTaken own s) hv hj hbit).trans (found_eq _ m))),
    fun hv hj hbit => hexec.trans (congrArg _ (syncingCensus_memberless (s := censusTaken own s) hv hj hbit)),
    fun hv hj hcount => hexec.trans (congrArg _ (syncingCensus_counts (s := censusTaken own s) hv hj hcount)),
    fun hv hj hcount => ⟨_, hexec, ?_⟩⟩
  rw [syncingCensus_isolates (s := censusTaken own s) hv hj hcount]
  exact syncRecorded_isolatedFrom hs own m .noSnapshot

end Sys2Proof.Machine
end

section
/-! COMMIT, ON and ARM (spec/06_output_channels.md R107, R111, R112; spec/07_load_probe_and_output_supervision.md R131;
spec/09_host_port.md R162): the checks in order, the terms and channels loaded, and what a taken ON or ARM makes of the channel, its slot
and the probe queue. -/

namespace Sys2Proof.Machine

open Sys2Proof.Safety Sys2Proof.Obl

variable {s t : State} {c : ChanNo} {index : Byte} {value : BitVec 16} {arm : Bool}

/-! ### Checks in order -/

/-- A taken request whose effect leaves the host port alone. -/
theorem accept_replied (h : t.port = s.port) : accept s t = .next { t with port := (replied s .accepted 0).port } := by
  rw [accept, answered_eq, h]
  rfl

/-- What the first element of a list that passes a test brings. -/
theorem firstHit_cons {α β : Type} (p : α × β → Bool) (x : α × β) (l : List (α × β)) :
    ((x :: l).find? p).map Prod.snd = if p x = true then some x.2 else (l.find? p).map Prod.snd := by
  cases h : p x <;> simp [h]

/-! ### COMMIT (R162, R107) -/

/-- One channel's checks in order (R162). -/
theorem badChanItem_eq (st : Settings) (c : ChanNo) :
    badChanItem st.poolLimit st.chans[c] c =
      (([(decide (st.chans[c].inrush ≤ st.poolLimit), 0x13 + 16 * c.val),
        (decide (st.chans[c].hold ≤ st.chans[c].inrush), 0x14 + 16 * c.val),
        (!st.chans[c].probe || decide (st.chans[c].openCount < st.chans[c].shortCount), 0x1B + 16 * c.val)]
          : List (Bool × Nat)).find? fun x => !x.1).map Prod.snd := by
  have hindex : ∀ n, chanItemIndex c n = 0x10 + n + 16 * c.val := fun n => by unfold chanItemIndex; omega
  simp only [firstHit_cons, badChanItem, hindex]
  simp

/-- The item that COMMIT reports is that of the first check of R162 that fails. -/
theorem badItem_eq (st : Settings) : badItem st = ((commitChecks st).find? fun x => !x.1).map Prod.snd := by
  have hrange : ∀ lo hi n : Nat, (!decide (lo ≤ n ∧ n ≤ hi)) = true ↔ n < lo ∨ hi < n := by simp
  simp only [badItem, commitChecks, List.cons_append, List.nil_append, firstHit_cons, hrange, List.find?_flatMap,
    List.map_findSome?, badChanItem_eq, Function.comp_def]

theorem execCommit_of_bad (hc : s.port.awaitCsn = false) (hs : s.member.station = .unconfigured) {i : Nat}
    (h : badItem s.settings = some i) : execCommit s = .next (replied s .invalid (BitVec.ofNat 16 i)) := by
  rw [execCommit, request_counted hc, if_neg (not_not.mpr hs), h]
  exact congrArg _ (answered_eq s s .invalid _)

theorem execCommit_of_consistent (hc : s.port.awaitCsn = false) (hs : s.member.station = .unconfigured)
    (h : badItem s.settings = none) : execCommit s = accept s (committed s) := by
  rw [execCommit, request_counted hc, if_neg (not_not.mpr hs), h]

/-- Settles O5, by the checks read as one list: the first that fails is what `badItem` reports. -/
theorem commitChecksThenLoads : Obligations.CommitChecksThenLoads := by
  refine fun s hc => ⟨fun hs => ?_, fun hs => ⟨fun x hx => ?_, fun hall => ?_⟩⟩
  · change execCommit s = _
    rw [execCommit, request_counted hc, if_pos hs, refuse_replied]
  · exact execCommit_of_bad hc hs (by rw [badItem_eq, hx, Option.map_some])
  · have hnone : (commitChecks s.settings).find? (fun x => !x.1) = none :=
      List.find?_eq_none.mpr fun x hx => by simp [hall x hx]
    have hexec := execCommit_of_consistent hc hs (by rw [badItem_eq, hnone, Option.map_none])
    refine ⟨(committed s).chan.channels, hexec.trans (accept_replied rfl), fun c => ?_⟩
    simp only [committed, State.chan_withMember, State.chan_withChan, Fin.getElem_fin, Vector.getElem_ofFn, commitChannel]
    rfl

/-! ### ON and ARM: the checks (R111) -/

theorem mate_eq_partner (c : ChanNo) : mate c = partner c := by
  fin_cases c <;> rfl

theorem partnerIdle_eq (s : State) (c : ChanNo) :
    partnerIdle s c = (decide ((s.channel (mate c)).state = .off) || decide ((s.channel (mate c)).state = .disabled)
      || decide ((s.channel (mate c)).state = .faulted)) := by
  rw [mate_eq_partner, partnerIdle]
  cases (s.channel (partner c)).state <;> rfl

/-- The refusal is that of the first condition of R111 that holds. -/
theorem startRefusal_eq (s : State) (c : ChanNo) (arm : Bool) :
    startRefusal s c arm = ((startChecks s c arm).find? fun x => x.1).map Prod.snd := by
  simp only [startRefusal, State.pairLocked, startChecks, ← partnerIdle_eq, firstHit_cons, List.find?_nil, Option.map_none,
    Bool.and_eq_true, Bool.or_eq_true, Bool.not_eq_true', decide_eq_true_eq]
  rfl

theorem startRefusal_none (h : ∀ x ∈ startChecks s c arm, x.1 = false) : startRefusal s c arm = none := by
  rw [startRefusal_eq, List.find?_eq_none.mpr fun x hx => by simp [h x hx], Option.map_none]

/-- A channel that no condition of R111 holds back is OFF. -/
theorem off_of_startChecks (h : ∀ x ∈ startChecks s c arm, x.1 = false) : (s.channel c).state = .off := by
  have hcheck := h (decide ((s.channel c).state ≠ .off), .state) (by simp [startChecks])
  simpa using hcheck

theorem exec_startCommand (hc : s.port.awaitCsn = false) (arm : Bool) (index : Byte) (value : BitVec 16) :
    exec (startCommand arm index value) s = startRequest arm index value s := by
  cases arm <;> exact request_counted hc _

theorem valueFlag_of_le (h : value.toNat ≤ 1) : valueFlag value = some (decide (value.toNat = 1)) := by
  rcases Nat.le_one_iff_eq_zero_or_eq_one.mp h with h | h <;> simp [valueFlag, h]

theorem valueFlag_of_ge (h : 2 ≤ value.toNat) : valueFlag value = none := by
  rw [valueFlag, if_neg (by omega), if_neg (by omega)]

theorem startRequest_out_of_range (h : 6 ≤ index.toNat ∨ 2 ≤ value.toNat) : startRequest arm index value s = refuse s .range := by
  unfold startRequest
  split
  · rename_i hindex hvalue
    rcases h with h | h
    · simp [indexFin_of_le h] at hindex
    · simp [valueFlag_of_ge h] at hvalue
  · rfl

theorem startRequest_refused (hi : index.toNat = c.val) (hv : value.toNat ≤ 1) {o : ReqOutcome}
    (h : startRefusal s c arm = some o) : startRequest arm index value s = refuse s o := by
  simp only [startRequest, indexFin_of_eq hi, valueFlag_of_le hv, h]

theorem startRequest_taken (hi : index.toNat = c.val) (hv : value.toNat ≤ 1) (h : startRefusal s c arm = none) :
    startRequest arm index value s
      = accept s (startChannel s c ⟨if arm then (s.cfg c).group else 0, decide (value.toNat = 1)⟩) := by
  simp only [startRequest, indexFin_of_eq hi, valueFlag_of_le hv, h]

/-- Settles O7: the conditions of R111 are the refusals that `startRefusal` tries, in the same order. -/
theorem onArmRefusedInOrder : Obligations.OnArmRefusedInOrder := by
  refine fun arm index value s hc => ⟨fun hrange => ?_, fun c hi hv => ⟨fun x hx => ?_, fun hall => ?_⟩⟩
  · exact (exec_startCommand hc arm index value).trans ((startRequest_out_of_range hrange).trans (refuse_replied s _))
  · have hrefusal : startRefusal s c arm = some x.2 := by rw [startRefusal_eq, hx, Option.map_some]
    exact (exec_startCommand hc arm index value).trans ((startRequest_refused hi hv hrefusal).trans (refuse_replied s _))
  · refine ⟨_, (exec_startCommand hc arm index value).trans (startRequest_taken hi hv (startRefusal_none hall)), ?_⟩
    rw [answered_eq]
    rfl

/-! ### ON and ARM taken (R112, R131) -/

/-- An OFF channel has nothing pending (R110). -/
theorem slot_empty_of_off (hfits : channelFits s c) (hslots : SlotsWellKept s.queue) (hs : (s.channel c).state = .off) :
    s.queue.entryOf (.channel c) = none := by
  simp only [channelFits, hs] at hfits
  exact (slotOwned_of_slots hslots c).empty_of_pending hfits.2.1

/-- With probe off the CLAIM of the start request is placed (R112). -/
theorem startChannel_claims (hempty : s.queue.entryOf (.channel c) = none) (hprobe : (s.cfg c).probe = false) (r : StartRequest) :
    startChannel s c r = { s with
      chan := putChannel s.chan c { s.channel c with state := .claiming, startReq := none, lastReason := none }
      queue := placed s.queue (.channel c) (.claim c (s.cfg c).cls (s.cfg c).inrush r.group r.wait) } := by
  simp only [startChannel, hprobe, Bool.false_eq_true, ↓reduceIte, placeClaim, State.place, State.queue_setChannel,
    place_of_empty hempty]
  rfl

/-- A channel joins the tail of the probe queue; in an empty queue its window starts from counts of 0 (R131, R132). -/
theorem joinProbe_eq (s : State) (c : ChanNo) :
    joinProbe s c = s.withProbe
      { queue := s.probe.queue ++ [c]
        reference := if s.probe.queue = [] then 0 else s.probe.reference
        load := if s.probe.queue = [] then 0 else s.probe.load } := by
  unfold joinProbe
  split
  · next hq => simp [hq]
  · next => rfl

/-- With probe on the channel is PROBING with its start request (R112, R131). -/
theorem startChannel_probes (hprobe : (s.cfg c).probe = true) (r : StartRequest) :
    startChannel s c r = { s with
      chan := putChannel s.chan c { s.channel c with state := .probing, startReq := some r, lastReason := none }
      probe :=
        { queue := s.probe.queue ++ [c]
          reference := if s.probe.queue = [] then 0 else s.probe.reference
          load := if s.probe.queue = [] then 0 else s.probe.load } } := by
  simp only [startChannel, hprobe, ↓reduceIte, joinProbe_eq]
  rfl

/-- Settles O8: a channel that R111 does not hold back is OFF, so that its slot is empty. -/
theorem onArmTaken : Obligations.OnArmTaken := by
  intro arm index value s c g hc hi hv hall hfits hslots hgroup hzero
  have hg : (if arm then (s.cfg c).group else 0) = g := by
    cases arm
    · exact (hzero rfl).symm
    · exact (hgroup rfl).symm
  have hexec := (exec_startCommand hc arm index value).trans (startRequest_taken hi hv (startRefusal_none hall))
  rw [hg] at hexec
  refine ⟨fun hprobe => ?_, fun hprobe => ?_⟩
  · rw [startChannel_claims (slot_empty_of_off hfits hslots (off_of_startChecks hall)) hprobe] at hexec
    exact hexec.trans (accept_replied rfl)
  · rw [startChannel_probes hprobe] at hexec
    exact hexec.trans (accept_replied rfl)

end Sys2Proof.Machine
end

section
/-! OFF, CLEAR_FAULT and the overcurrent (spec/06_output_channels.md R113, R125, R126; spec/07_load_probe_and_output_supervision.md R138,
R143, R145): how a driving channel stops by what it has pending, and what becomes of the channel's record, its slot and the flags. -/

namespace Sys2Proof.Machine

open Sys2Proof.Safety Sys2Proof.Obl

variable {s t : State} {c : ChanNo} {index : Byte}

/-! ### A channel's slot by what it has pending (R41, R108) -/

theorem slot_of_pending (hp : s.pendingFrame c ≠ .none) : ∃ e, s.queue.entryOf (.channel c) = some e :=
  Option.ne_none_iff_exists'.mp fun hnone => hp (pending_of_empty hnone)

theorem slotEmpty_of_pending (h : SlotOwned s c) : s.slotEmpty c = true ↔ s.pendingFrame c = .none :=
  slotEmpty_iff.trans ⟨pending_of_empty, h.empty_of_pending⟩

/-- An unsent entry removed, and with it its offer in arbitration (R23, R44). -/
theorem dropEntry_eq {o : Owner} (h : ∀ e ∈ s.queue.entries, e.owner = o → e.onLine = false) :
    s.dropEntry o = { s with queue := emptied s.queue o, line := unoffered s o } := by
  rw [State.dropEntry, removeUnsent_of_unsent h, unoffered]
  split <;> rfl

/-! ### A driving channel stops, by what it has pending (R113, R125) -/

theorem stopDriving_nothing_pending (hempty : s.queue.entryOf (.channel c) = none) (busy idle : ChState) :
    stopDriving s c busy idle =
      if (s.channel c).state = .inrush ∨ 0 < (s.channel c).counted then
        { s with
          queue := placed s.queue (.channel c) (fullOf s c)
          chan := putChannel s.chan c { s.channel c with state := busy, inrushTimer := none } }
      else { s with chan := putChannel s.chan c { s.channel c with state := idle, inrushTimer := none } } := by
  simp only [stopDriving, hempty, placeFull, State.place, place_of_empty hempty]
  rfl

/-- A frame on the line is untouched, and a release owed past it; an unsent one becomes the FULL (R44, R114). -/
theorem stopDriving_pending (hn : (s.queue.entries.map Entry.owner).Nodup) (hp : s.pendingFrame c ≠ .none) (busy idle : ChState) :
    stopDriving s c busy idle =
      if s.queue.frozen (.channel c) = true then
        { s with chan := putChannel s.chan c { s.channel c with state := busy, inrushTimer := none, followUp := true } }
      else
        { s with
          queue := rewritten s.queue (.channel c) (fullOf s c)
          chan := putChannel s.chan c { s.channel c with state := busy, inrushTimer := none } } := by
  obtain ⟨e, he⟩ := slot_of_pending hp
  have hunsent : s.queue.frozen (.channel c) = false → ∀ k, s.queue.rewrite (.channel c) k = rewritten s.queue (.channel c) k :=
    fun hf => rewrite_of_unsent (unsent_of_not_frozen hn hf)
  rw [frozen_of_slot he] at hunsent ⊢
  simp only [stopDriving, he]
  cases hon : e.onLine with
  | true => rfl
  | false =>
    rw [rewriteFull, State.rewrite, hunsent hon]
    rfl

/-! ### OFF (R113) -/

theorem offResult_port (s : State) (c : ChanNo) : (offResult s c).port = s.port := by
  unfold offResult
  dsimp only
  repeat' split
  all_goals rfl

/-- A RUN channel leaves service by what it has pending (R113). -/
theorem leaveService_run (hslots : SlotsWellKept s.queue) (hs : (s.channel c).state = .run) : leaveService s c = offResult s c := by
  simp only [leaveService, offResult, hs]
  cases hp : s.pendingFrame c with
  | none =>
    rw [stopDriving_nothing_pending ((slotOwned_of_slots hslots c).empty_of_pending hp)]
    simp only [hs, reduceCtorEq, false_or]
    rfl
  | _ => exact stopDriving_pending hslots.1 (by simp [hp]) _ _

/-- A channel that is taken out of service acts by the table of R113. -/
theorem leaveService_eq_offResult (hfits : channelFits s c) (hslots : SlotsWellKept s.queue) : leaveService s c = offResult s c := by
  have hslot := slotOwned_of_slots hslots c
  cases hs : (s.channel c).state with
  | disabled | off | releasing | faulted => simp only [leaveService, offResult, hs]
  | probing =>
    simp only [leaveService, offResult, hs, leaveProbe]
    split <;> rfl
  | claiming =>
    simp only [leaveService, offResult, hs]
    split
    · rfl
    · next hf =>
      rw [dropEntry_eq (unsent_of_not_frozen hslots.1 (Bool.eq_false_of_not_eq_true hf))]
      rfl
  | waiting | armed | startWait =>
    simp only [channelFits, hs] at hfits
    have hempty := hslot.empty_of_pending hfits.2.1
    simp only [leaveService, offResult, hs, placeWithdraw, placeFull, leaveStartQueue, State.place, State.queue_withChan,
      place_of_empty hempty]
    rfl
  | inrush =>
    simp only [channelFits, hs] at hfits
    simp only [leaveService, offResult, hs, stopDriving_nothing_pending (hslot.empty_of_pending hfits.2.1), true_or, if_true]
    rfl
  | run => exact leaveService_run hslots hs

theorem execOff_of_index (hc : s.port.awaitCsn = false) (hi : index.toNat = c.val) :
    execOff index s = if (s.channel c).state = .disabled then refuse s .disabled else accept s (leaveService s c) := by
  simp only [execOff, request_counted hc, indexFin_of_eq hi]

/-- Settles O9: what is taken out of service acts by the table. -/
theorem offActsByState : Obligations.OffActsByState := by
  refine fun index s hc => ⟨fun hrange => ?_, fun c hi => ⟨fun hs => ?_, fun hs hfits hslots => ?_⟩⟩
  · change execOff index s = _
    rw [execOff, request_counted hc, indexFin_of_le hrange]
    exact refuse_replied s _
  · exact (execOff_of_index hc hi).trans (by rw [if_pos hs, refuse_replied])
  · refine (execOff_of_index hc hi).trans ?_
    rw [if_neg hs, leaveService_eq_offResult hfits hslots]
    exact accept_replied (offResult_port s c)

/-! ### CLEAR_FAULT (R126) -/

/-- What becomes of a channel whose record is removed: a FAULTED one is OFF where it has nothing to give back. -/
def clearedState (s : State) (c : ChanNo) : ChState :=
  if (s.channel c).state = .faulted then
    (if s.slotEmpty c = true ∧ (s.channel c).followUp = false ∧ (s.channel c).counted = 0 then .off else .releasing)
  else (s.channel c).state

theorem clearFault_eq (s : State) (c : ChanNo) :
    clearFault s c = { s with chan := putChannel s.chan c { s.channel c with fault := none, state := clearedState s c } } := rfl

theorem clearedState_of_ne (hs : (s.channel c).state ≠ .faulted) : clearedState s c = (s.channel c).state := if_neg hs

/-- A FAULTED channel with nothing pending or owed counts no units (R110), so that it is OFF. -/
theorem clearedState_off (hfits : channelFits s c) (hslot : SlotOwned s c) (hs : (s.channel c).state = .faulted)
    (hp : s.pendingFrame c = .none) (hf : (s.channel c).followUp = false) : clearedState s c = .off := by
  have hcounted : (s.channel c).counted = 0 := by
    simp only [channelFits, hs] at hfits
    simpa [hp, hf] using hfits
  rw [clearedState, if_pos hs, if_pos ⟨(slotEmpty_of_pending hslot).mpr hp, hf, hcounted⟩]

theorem clearedState_releasing (hslot : SlotOwned s c) (hs : (s.channel c).state = .faulted)
    (h : s.pendingFrame c = .full ∨ (s.channel c).followUp = true) : clearedState s c = .releasing := by
  rw [clearedState, if_pos hs, if_neg]
  rintro ⟨hempty, hf, -⟩
  rcases h with hp | hfollow
  · simp [(slotEmpty_of_pending hslot).mp hempty] at hp
  · simp [hf] at hfollow

theorem execClearFault_of_index (hc : s.port.awaitCsn = false) (hi : index.toNat = c.val) (hs : (s.channel c).state ≠ .disabled)
    {r : FaultRecord} (hr : (s.channel c).fault = some r) :
    execClearFault index s
      = if s.monitor.temperature = .shutdown ∧ r.kind = .thermal then refuse s .hot else accept s (clearFault s c) := by
  simp only [execClearFault, request_counted hc, indexFin_of_eq hi, if_neg hs, hr]

/-- Settles O10, by the state that the removed record leaves. -/
theorem clearFaultRemovesRecord : Obligations.ClearFaultRemovesRecord := by
  refine fun index s hc => ⟨fun hrange => ?_, fun c hi => ⟨fun hs => ?_, fun hs hnone => ?_, fun r hs hr =>
    ⟨fun hshut hthermal => ?_, fun hcold hfits hslots => ?_⟩⟩⟩
  · change execClearFault index s = _
    rw [execClearFault, request_counted hc, indexFin_of_le hrange]
    exact refuse_replied s _
  · change execClearFault index s = _
    simp only [execClearFault, request_counted hc, indexFin_of_eq hi, if_pos hs, refuse_replied]
  · change execClearFault index s = _
    simp only [execClearFault, request_counted hc, indexFin_of_eq hi, if_neg hs, hnone, refuse_replied]
  · exact (execClearFault_of_index hc hi hs hr).trans (by rw [if_pos ⟨hshut, hthermal⟩, refuse_replied])
  · have hslot := slotOwned_of_slots hslots c
    refine ⟨clearedState s c, (execClearFault_of_index hc hi hs hr).trans ?_, clearedState_of_ne, clearedState_off hfits hslot,
      clearedState_releasing hslot⟩
    rw [if_neg hcold, clearFault_eq]
    exact accept_replied rfl

/-! ### Overcurrent (R125, R138) -/

/-- A driven output belongs to a channel in INRUSH or RUN (R110). -/
theorem driving_of_driven (h : s.driven c = true) : driving s c := by
  unfold State.driven at h
  cases hs : (s.channel c).state <;> simp [driving, hs] at h ⊢

theorem aboveLimit_of_limitOf (hs : driving s c) {current : Nat} (h : limitOf s c < min current 8000 ∨ 8000 ≤ current) :
    aboveLimit s c current = true := by
  have hlimit : currentLimit s c = limitOf s c := by
    rcases hs with hs | hs <;> simp [currentLimit, limitOf, hs, Config.maxCurrent, ← Nat.mul_assoc]
  simp only [aboveLimit, hlimit, measured, Config.maxCurrent, Bool.or_eq_true, decide_eq_true_eq]
  exact h.imp_right fun htop => decide_eq_true (min_eq_right htop)

/-- The station once a fault's record is written, and FAULT raised (R142, R145). -/
def recorded (s : State) (c : ChanNo) (r : FaultRecord) : State :=
  flagged (withRecord s c s.queue.entries { s.channel c with fault := some r }) [faultFlag c]

theorem channel_recorded (s : State) (c : ChanNo) (r : FaultRecord) :
    (recorded s c r).channel c = { s.channel c with fault := some r } :=
  channel_withRecord_self s c s.queue.entries _

theorem putChannel_recorded (s : State) (c : ChanNo) (r : FaultRecord) (y : Channel) :
    putChannel (recorded s c r).chan c y = putChannel s.chan c y := by
  simp [recorded, flagged, withRecord, putChannel]

theorem writeRecord_recorded (hfault : (s.channel c).fault.all (fun f => !f.stopping) = true) (kind : FaultKind) (value : Nat) :
    writeRecord s c kind true value (s.channel c).state = recorded s c (stoppingRecord s c kind value) := by
  have hnone : (s.channel c).fault.any (fun f => f.stopping) = false := by
    cases hf : (s.channel c).fault with
    | none => rfl
    | some f => simpa [hf] using hfault
  have hwrite := writeRecord_stopping (s := s) (c := c) (es := s.queue.entries) hnone kind value (s.channel c).state
  rwa [withRecord_self] at hwrite

/-- The channel stops with the record written, and STOPPED is raised (R125). -/
theorem faultChannel_recorded (hslots : SlotsWellKept s.queue) (r : FaultRecord) :
    faultChannel (recorded s c r) c = faultedResult s c r := by
  rw [faultChannel, faultedResult]
  cases hp : s.pendingFrame c with
  | none =>
    have hempty : (recorded s c r).queue.entryOf (.channel c) = none := (slotOwned_of_slots hslots c).empty_of_pending hp
    rw [stopDriving_nothing_pending hempty]
    simp only [fullOf, channel_recorded, putChannel_recorded]
    split <;> rfl
  | _ =>
    have hpending : s.pendingFrame c ≠ .none := by simp [hp]
    rw [stopDriving_pending (s := recorded s c r) hslots.1 hpending]
    simp only [fullOf, channel_recorded, putChannel_recorded]
    change (if s.queue.frozen (.channel c) = true then _ else _ : State).raise _ = _
    split <;> rfl

/-- Settles O36: the record is written, and then the channel stops by what it has pending. -/
theorem overcurrentFaultsChannel : Obligations.OvercurrentFaultsChannel := by
  refine fun c current s => ⟨fun ⟨hdriven, _, hslots, hfault⟩ habove => ?_, fun hidle => ?_⟩
  · change execOvercurrent c current s = _
    have habove := aboveLimit_of_limitOf (driving_of_driven hdriven) habove
    rw [execOvercurrent, if_pos (by simp [hdriven, habove]), writeRecord_recorded hfault, faultChannel_recorded hslots]
    rfl
  · change execOvercurrent c current s = _
    rw [execOvercurrent, if_neg (by simp [hidle])]

end Sys2Proof.Machine
end

section
/-! The own row and the channels (spec/06_output_channels.md R109, R110, R116; spec/11_worked_sequences.md R184): a quiescent station holds
and waits for nothing. The accounts in order are no invariant as they stand: they admit a station in ANSWERING whose own frame is a CLAIM,
which a census then takes off the line with no outcome told. -/

namespace Sys2Proof.Machine

open Sys2Proof.Safety Sys2Proof.Obl

variable {s : State} {c : ChanNo}

/-! ### A quiescent station (R184) -/

/-- A quiescent channel is idle, or FAULTED with no units counted. -/
theorem quiescentChannel_state (h : quiescentChannel s c = true) :
    (s.channel c).state = .off ∨ (s.channel c).state = .disabled
      ∨ ((s.channel c).state = .faulted ∧ (s.channel c).counted = 0) := by
  simp only [quiescentChannel, Bool.and_eq_true, Bool.or_eq_true, decide_eq_true_eq, or_assoc] at h
  exact h.1.1

theorem quiescentChannel_of_quiescent (h : quiescent s = true) (c : ChanNo) : quiescentChannel s c = true := by
  simp only [quiescent, Bool.and_eq_true, List.all_eq_true] at h
  exact h.2 c (by fin_cases c <;> decide)

theorem counted_of_quiescent (hfits : channelFits s c) (h : quiescentChannel s c = true) : (s.channel c).counted = 0 := by
  rcases quiescentChannel_state h with hs | hs | ⟨-, hcounted⟩
  · simp only [channelFits, hs] at hfits
    exact hfits.1
  · simp only [channelFits, hs] at hfits
    exact hfits.1
  · exact hcounted

/-- Settles O46: no channel counts units, and none is in a state that an entry waits for. -/
theorem quiescentHoldsNothing : Obligations.QuiescentHoldsNothing := by
  intro s hmirrors hwaits hfits hq
  have hchannel := quiescentChannel_of_quiescent hq
  have hjoined : s.member.station = .joined := by
    simp only [quiescent, State.isJoined, Bool.and_eq_true, decide_eq_true_eq] at hq
    exact hq.1
  refine ⟨fun k => ?_, fun e he hown => ?_⟩
  · have hcounted : ∀ c, countedIn s k c = 0 := fun c => by
      simp [countedIn, counted_of_quiescent (hfits c) (hchannel c)]
    rw [hmirrors hjoined k, funext hcounted]
    rfl
  · have hstate := quiescentChannel_state (hchannel e.channel)
    rcases hwaits e he hown with hs | ⟨hs, -⟩ <;> simp [hs] at hstate

/-! ### A CLAIM taken off the line by a census -/

/-- The station of `claimAnswering`: channel 0 alone is enabled, in class 0, with 1 unit of inrush and none of hold. -/
def oneChannelStore : Settings :=
  { resetSettings with poolLimit := 80, censusCode := 20, chans := resetSettings.chans.set 0 { resetChanSettings with enable := true } }

def askedHeader : CensusHeader := ⟨.asked, ⟨80, 20⟩, 0⟩

/-- Station 0 is JOINED and answers a census of station 3, while channel 0's CLAIM is on the line. No command leads here, since the model
enters ANSWERING with an own frame for an own CENSUS alone (R34); but `OnLineCarried` admits any own frame in ANSWERING, and no other part
of `Accounted` asks for more. -/
def claimAnswering : State :=
  { State.reset with
    settings := oneChannelStore
    terms := some ⟨80, 20⟩
    pool := { emptyPool with rows := emptyPool.rows.set 0 freshRow }
    member := { resetMember with station := .joined }
    line := { offLine with
      state := .answering, listening := true, offer := some (.entry (.channel 0)), ownFrame := some (.claim 0 0 1 0 false)
      answer := some ⟨3, askedHeader, true, false, false, false⟩ }
    queue := { emptyQueue with entries := [⟨.channel 0, .claim 0 0 1 0 false, 0, true⟩] }
    chan := { resetChanCtl with channels := resetChanCtl.channels.set 0 { resetChannel with state := .claiming } }
    pending := [.census 3 askedHeader ⟨1, 0, 0, 0⟩] }

theorem accounted_claimAnswering : Accounted claimAnswering where
  blocks := ⟨by decide, by decide, by decide, by decide, by decide, by decide, by decide, by decide, by decide⟩
  queue := ⟨by decide, by decide, by decide⟩
  pool := ⟨by decide, by decide, by decide, by decide, by decide⟩
  fits := by
    intro c
    fin_cases c <;> exact ⟨rfl, rfl, rfl⟩
  starts := by decide
  head := fun _ _ => rfl
  probes := by decide
  records := by decide
  faults := by decide
  disabled := by decide
  settings := by decide
  frames := by
    intro c e he ho
    rw [List.mem_singleton.mp he] at ho ⊢
    cases ho
    exact ⟨rfl, rfl, rfl⟩
  carries := by decide
  entries := by decide
  waits := by decide
  mirrors := by decide

/-- The census is taken as the station's own, so that its report removes the CLAIM, and channel 0 stays CLAIMING. -/
theorem step_claimAnswering :
    ∃ t, step claimAnswering = .next t ∧ (t.channel 0).state = .claiming ∧ t.pendingFrame 0 = .none :=
  ⟨_, rfl, by decide, by decide⟩

theorem pendingFrame_of_claiming (hfits : channelFits s c) (hs : (s.channel c).state = .claiming) : s.pendingFrame c = .claim := by
  simp only [channelFits, hs] at hfits
  exact hfits.2.1

/-- Refutes O44: of `claimAnswering`, whose accounts are in order, a census leaves a channel CLAIMING with no CLAIM in its slot, against
R110. No frame of a second station bears the number, and no snapshot comes. -/
theorem not_ownRowMirrorKept : ¬ Obligations.OwnRowMirrorKept := by
  intro h
  have hsnapshots : SnapshotsInOrder claimAnswering := fun n t p rest hp => by cases hp
  have hnotwin : NoTwin claimAnswering := fun _ _ _ _ _ _ _ => .inr rfl
  obtain ⟨t, hstep, hclaiming, hnone⟩ := step_claimAnswering
  have ht := h claimAnswering t accounted_claimAnswering hsnapshots hnotwin hstep
  have hclaim := pendingFrame_of_claiming (ht.fits 0) hclaiming
  exact absurd (hclaim.symm.trans hnone) (by decide)

end Sys2Proof.Machine
end

section
/-! The end of a probe window, the open-load detector and the current measurement (spec/07_load_probe_and_output_supervision.md R131 to
R134, R137, R140, R141, R143, R145; spec/06_output_channels.md R112). -/

namespace Sys2Proof.Machine

open Sys2Proof.Safety Sys2Proof.Obl

variable {s : State} {c : ChanNo} {cfg : ChanSettings} {r : FaultRecord} {rest : List ChanNo} {periods count current : Nat}

/-! ### The load count against the thresholds (R133) -/

theorem probeVerdict_within (hopen : cfg.openCount ≤ count) (hshort : count ≤ cfg.shortCount) : probeVerdict cfg count = none := by
  rw [probeVerdict, if_neg (not_lt.mpr hopen), if_neg (not_lt.mpr hshort)]

theorem probeVerdict_below (h : count < cfg.openCount) : probeVerdict cfg count = some .probeOpen := if_pos h

theorem probeVerdict_above (hopen : cfg.openCount ≤ count) (h : cfg.shortCount < count) : probeVerdict cfg count = some .probeShort := by
  rw [probeVerdict, if_neg (not_lt.mpr hopen), if_pos h]

/-- A count below the open count is PROBE_OPEN whatever the short count is. -/
theorem probeVerdict_outside (h : count < cfg.openCount ∨ cfg.shortCount < count) :
    ∃ kind, probeVerdict cfg count = some kind ∧ (count < cfg.openCount → kind = .probeOpen)
      ∧ (cfg.openCount ≤ count → kind = .probeShort) := by
  rcases lt_or_ge count cfg.openCount with hbelow | hopen
  · exact ⟨.probeOpen, probeVerdict_below hbelow, fun _ => rfl, fun hopen => absurd hbelow (not_lt.mpr hopen)⟩
  · exact ⟨.probeShort, probeVerdict_above hopen (h.resolve_left (not_lt.mpr hopen)), fun hbelow => absurd hbelow (not_lt.mpr hopen),
      fun _ => rfl⟩

/-! ### The head leaves the probe queue (R131, R132, R134) -/

/-- A PROBING channel's slot is empty (R110), so that the CLAIM of its start request is placed (R112). -/
theorem probePassed_claims {q : StartRequest} (hs : (s.channel c).state = .probing) (hreq : (s.channel c).startReq = some q)
    (hempty : s.queue.entryOf (.channel c) = none) :
    probePassed s c = { s with
      queue := placed s.queue (.channel c) (.claim c (s.cfg c).cls (s.cfg c).inrush q.group q.wait)
      chan := putChannel s.chan c { s.channel c with state := .claiming, startReq := none } } := by
  simp only [probePassed, hs, hreq, placeClaim, State.place, State.queue_setChannel, place_of_empty hempty]
  rfl

theorem no_stopping_of_all_reports {f : Option FaultRecord} (h : f.all (fun r => !r.stopping) = true) :
    f.any (fun r => r.stopping) = false := by
  cases f with
  | none => rfl
  | some r => simpa using h

/-- A failed probe writes a stopping record, raises FAULT and STOPPED, and counts no units (R134). -/
theorem probeFailed_faults (hs : (s.channel c).state = .probing) (hfault : (s.channel c).fault.all (fun f => !f.stopping) = true)
    (kind : FaultKind) (count : Nat) :
    probeFailed s c kind count = { flagged s [faultFlag c, stoppedFlag c] with
      chan := putChannel s.chan c
        { s.channel c with
          state := .faulted, counted := 0, startReq := none, fault := some (stoppingRecord s c kind count) } } := by
  have hwrite := writeRecord_stopping (s := s) (c := c) (es := s.queue.entries)
    (x := { s.channel c with state := .faulted, counted := 0, startReq := none }) (no_stopping_of_all_reports hfault) kind count .probing
  rw [probeFailed, State.updChannel, setChannel_eq, hwrite, raise_eq_flagged, flagged_flagged, stoppingRecord, hs]
  rfl

theorem execProbeWindowEnd_passed (hq : s.probe.queue = c :: rest) (hv : probeVerdict (s.cfg c) (loadCount periods) = none) :
    execProbeWindowEnd periods s = .next (probePassed (s.withProbe ⟨rest, 0, 0⟩) c) := by
  simp only [execProbeWindowEnd, hq, hv]

theorem execProbeWindowEnd_failed {kind : FaultKind} (hq : s.probe.queue = c :: rest)
    (hv : probeVerdict (s.cfg c) (loadCount periods) = some kind) :
    execProbeWindowEnd periods s = .next (probeFailed (s.withProbe ⟨rest, 0, 0⟩) c kind (loadCount periods)) := by
  simp only [execProbeWindowEnd, hq, hv]

/-- Settles O35: the verdict on the load count decides whether the head claims or is faulted. -/
theorem probeWindowJudged : Obligations.ProbeWindowJudged := by
  intro periods c rest q s hqueue hs hreq hfits hslots hfault
  refine ⟨fun hopen hshort => ?_, fun houtside => ?_⟩
  · have hpending : s.pendingFrame c = .none := by
      simp only [channelFits, hs] at hfits
      exact hfits.2.1
    have hempty := (slotOwned_of_slots hslots c).empty_of_pending hpending
    exact (execProbeWindowEnd_passed hqueue (probeVerdict_within hopen hshort)).trans
      (congrArg _ (probePassed_claims (s := s.withProbe ⟨rest, 0, 0⟩) hs hreq hempty))
  · obtain ⟨kind, hverdict, hkind⟩ := probeVerdict_outside houtside
    exact ⟨kind, (execProbeWindowEnd_failed hqueue hverdict).trans
      (congrArg _ (probeFailed_faults (s := s.withProbe ⟨rest, 0, 0⟩) hs hfault kind _)), hkind⟩

/-! ### The open-load detector (R137, R140, R141) -/

/-- A driven channel in RUN has an active detector where its threshold is not 0. -/
theorem openActive_of_run (hdriven : s.driven c = true) (hs : (s.channel c).state = .run) (hthreshold : (s.cfg c).olThreshold ≠ 0) :
    openActive s c = true := by
  simp [openActive, hdriven, hs, hthreshold]

theorem execOpenLoad_found (hactive : openActive s c = true) (hspent : (s.channel c).olSpent = false)
    (hbelow : measured current < openThreshold s c) : execOpenLoad c current s = .next (openLoadFound s c current) := by
  rw [execOpenLoad, if_pos (by simp [hactive, hspent, hbelow])]

/-- A detector that is idle or spent finds nothing. -/
theorem execOpenLoad_idle (h : s.driven c = false ∨ (s.channel c).olSpent = true) : execOpenLoad c current s = .next s := by
  rw [execOpenLoad, if_neg]
  rcases h with hidle | hspent
  · simp [openActive, hidle]
  · simp [hspent]

theorem execOpenLoadRearm_active (hactive : openActive s c = true) (habove : openThreshold s c ≤ measured current) :
    execOpenLoadRearm c current s
      = .next { s with chan := putChannel s.chan c { s.channel c with olSpent := false } } := by
  rw [execOpenLoadRearm, if_pos (by simp [hactive, habove])]
  rfl

/-! ### Reports (R143, R145) -/

theorem writeRecord_first_report (hnone : (s.channel c).fault = none) (kind : FaultKind) (value : Nat) (found : ChState) :
    writeRecord s c kind false value found = recorded s c ⟨kind, false, s.monitor.clock, value, found, false⟩ := by
  simp only [writeRecord, hnone]
  rfl

/-- A report on a channel that holds one keeps it, with its kind, time, value and state, and sets repeated. -/
theorem writeRecord_further_report (hheld : (s.channel c).fault = some r) (hreport : r.stopping = false) (kind : FaultKind) (value : Nat)
    (found : ChState) : writeRecord s c kind false value found = recorded s c { r with repeated := true } := by
  simp only [writeRecord, hheld, hreport, Bool.false_eq_true, ↓reduceIte]
  rfl

/-- The detector is spent once the report is written; the channel keeps its state and its units (R140, R141). -/
theorem recorded_spent (s : State) (c : ChanNo) (r : FaultRecord) :
    (recorded s c r).updChannel c (fun x => { x with olSpent := true })
      = { flagged s [faultFlag c] with chan := putChannel s.chan c { s.channel c with fault := some r, olSpent := true } } := by
  rw [State.updChannel, channel_recorded]
  exact congrArg (fun k => { flagged s [faultFlag c] with chan := k }) (putChannel_recorded s c r _)

/-- With action REPORT the report is written and the detector spent. -/
theorem openLoadFound_report (haction : (s.cfg c).olReport = true)
    (hwrite : writeRecord s c .openLoad false (measured current) .run = recorded s c r) :
    openLoadFound s c current
      = { flagged s [faultFlag c] with chan := putChannel s.chan c { s.channel c with fault := some r, olSpent := true } } := by
  rw [openLoadFound, if_pos haction, hwrite, recorded_spent]

/-- With action STOP the channel is faulted as by an overcurrent. -/
theorem openLoadFound_stop (haction : (s.cfg c).olReport = false) (hs : (s.channel c).state = .run) (hslots : SlotsWellKept s.queue)
    (hfault : (s.channel c).fault.all (fun f => !f.stopping) = true) :
    openLoadFound s c current = faultedResult s c (stoppingRecord s c .openLoad (measured current)) := by
  rw [openLoadFound, if_neg (by simp [haction]), ← hs, writeRecord_recorded hfault, faultChannel_recorded hslots]

theorem openLoadStopsOrReports : OpenLoadStopsOrReports := by
  intro c current s ⟨hdriven, _, hslots, hfault⟩ hs hspent hbelow
  have hactive := openActive_of_run hdriven hs (by omega)
  have hexec := execOpenLoad_found hactive hspent hbelow
  refine ⟨fun haction => hexec.trans (congrArg _ (openLoadFound_stop haction hs hslots hfault)), fun haction => ⟨fun r hheld => ?_,
    fun hnone => hexec.trans (congrArg _ (openLoadFound_report haction (writeRecord_first_report hnone _ _ _)))⟩⟩
  have hreport : r.stopping = false := by simpa [hheld] using hfault
  exact hexec.trans (congrArg _ (openLoadFound_report haction (writeRecord_further_report hheld hreport _ _ _)))

theorem measurementsKeptAndRearm : MeasurementsKeptAndRearm := fun _ _ _ =>
  ⟨rfl, fun hdriven hs hthreshold habove => execOpenLoadRearm_active (openActive_of_run hdriven hs hthreshold) habove, execOpenLoad_idle⟩

/-- Settles O56: the detection by the action and the record held, the measurement by its own equation. -/
theorem openLoadAndMeasurement : Obligations.OpenLoadAndMeasurement := ⟨openLoadStopsOrReports, measurementsKeptAndRearm⟩

end Sys2Proof.Machine
end

section
/-! What a host request comes to (spec/09_host_port.md R158, R160, R168; spec/10_host_requests.md R170): the gate of the port, then a
refusal, COMMIT's INVALID or a taken request; and, before the port counts transactions, nothing. -/

namespace Sys2Proof.Machine

open Sys2Proof.Safety Sys2Proof.Obl

variable {s t : State} {c : Instr} {r : Result}

theorem ChannelWrites.pending (h : ChannelWrites s t) : t.pending = s.pending := by
  obtain ⟨-, -, -, -, -, -, -, hpending, -⟩ := h
  exact hpending

/-! ### The decision of one request -/

/-- All that a counted request can answer (R160): a refusal, COMMIT's INVALID with an item's index, or a taken request, which leaves the
waiting commands alone. -/
inductive Decides (s : State) : Result → Prop
  | refuse (o : ReqOutcome) : Decides s (refuse s o)
  | invalid (item : BitVec 16) : Decides s (.next (answered s s .invalid item))
  | take (t : State) (v : BitVec 16) (h : t.pending = s.pending) : Decides s (.next (answered s t .accepted v))

namespace Decides

theorem accept (h : t.pending = s.pending) : Decides s (accept s t) := take t 0 h

theorem ite {p : Prop} [Decidable p] {r r' : Result} (h : Decides s r) (h' : Decides s r') : Decides s (if p then r else r') := by
  split
  · exact h
  · exact h'

/-- A decision is a next state with the waiting commands of before. -/
theorem completes (h : Decides s r) : ∃ t, r = .next t ∧ t.pending = s.pending := by
  cases h with
  | refuse o => exact ⟨_, rfl, rfl⟩
  | invalid item => exact ⟨_, rfl, rfl⟩
  | take t v h => exact ⟨_, rfl, h⟩

/-- The reply of a decision holds the transaction's summary, and one that is not ACCEPTED is all that changed (R160). -/
theorem reply {p : Reply} (h : Decides s (.next t)) (hp : t.port.reply = some p) :
    p.summary = summaryTaken s
      ∧ (p.outcome ≠ .accepted → t = replied s p.outcome p.result ∧ (p.outcome ≠ .invalid → p.result = 0)) := by
  generalize hr : Host.Outcome.next t = r at h
  cases h with
  | refuse o =>
    rw [refuse_replied] at hr
    cases hr
    cases hp
    exact ⟨rfl, fun _ => ⟨rfl, fun _ => rfl⟩⟩
  | invalid item =>
    rw [answered_eq] at hr
    cases hr
    cases hp
    exact ⟨rfl, fun _ => ⟨rfl, fun hne => absurd rfl hne⟩⟩
  | take t v _ =>
    rw [answered_eq] at hr
    cases hr
    cases hp
    exact ⟨rfl, fun hne => absurd rfl hne⟩

end Decides

/-! ### The decision by its checks, request by request -/

theorem startRequest_decides (arm : Bool) (index : Byte) (value : BitVec 16) (s : State) :
    Decides s (startRequest arm index value s) := by
  unfold startRequest
  split
  · split
    · exact .refuse _
    · exact .accept (ChannelWrites.startChannel s _ _).pending
  · exact .refuse _

theorem dropHead_pending (s : State) : (dropHead s).pending = s.pending := by
  unfold dropHead
  dsimp only
  split <;> rfl

/-- Every host request goes through the port's gate (R168), and behind it its checks and its effect decide it. -/
theorem exec_request (h : isRequest c) (s : State) : ∃ r, exec c s = request s r ∧ Decides s r := by
  obtain ⟨hcode, hwf⟩ := h
  cases c
  case softReset => exact ⟨_, rfl, .accept rfl⟩
  case unknown code =>
    have hunlisted : ¬ knownCodes.contains code = true := by simpa [Instr.wellFormed] using hwf
    exact ⟨_, if_neg hunlisted, .refuse _⟩
  case setItem => exact ⟨_, rfl, .ite (.refuse _) (by split; exacts [.refuse _, .accept rfl])⟩
  case commit => exact ⟨_, rfl, .ite (.refuse _) (by split; exacts [.invalid _, .accept rfl])⟩
  case start => exact ⟨_, rfl, .ite (.accept rfl) (.refuse _)⟩
  case on index value => exact ⟨_, rfl, startRequest_decides false index value s⟩
  case arm index value => exact ⟨_, rfl, startRequest_decides true index value s⟩
  case off =>
    refine ⟨_, rfl, ?_⟩
    split
    · exact .refuse _
    · exact .ite (.refuse _) (.accept (ChannelWrites.leaveService s _).pending)
  case clearFault =>
    refine ⟨_, rfl, ?_⟩
    split
    · exact .refuse _
    · exact .ite (.refuse _) (by split; exacts [.refuse _, .ite (.refuse _) (.accept rfl)])
  case go =>
    refine ⟨_, rfl, ?_⟩
    split
    · exact .refuse _
    · exact .ite (.refuse _) (.ite (.refuse _) (.ite (.refuse _) (.accept rfl)))
  case setShed =>
    refine ⟨_, rfl, ?_⟩
    split
    · exact .refuse _
    · refine .ite (.refuse _) ?_
      split
      · exact .refuse _
      · rename_i htaken
        exact .accept (by rw [requestShed_frame htaken])
  case poolStop => exact ⟨_, rfl, .ite (.refuse _) (.accept rfl)⟩
  case stationStop =>
    refine ⟨_, rfl, ?_⟩
    split
    · exact .refuse _
    · exact .ite (.refuse _) (by split; exacts [.refuse _, .accept rfl])
  case stageNoteByte =>
    refine ⟨_, rfl, ?_⟩
    split
    · exact .refuse _
    · exact .ite (.refuse _) (.accept rfl)
  case sendNote =>
    refine ⟨_, rfl, ?_⟩
    split
    · exact .refuse _
    · exact .ite (.refuse _) (.ite (.refuse _) (.ite (.refuse _) (.accept rfl)))
  case readNoteByte =>
    refine ⟨_, rfl, ?_⟩
    split
    · exact .refuse _
    · split
      · exact .refuse _
      · exact .take s _ rfl
  case dropNote => exact ⟨_, rfl, .ite (.refuse _) (.accept (dropHead_pending s))⟩
  case readItem =>
    refine ⟨_, rfl, ?_⟩
    split
    · exact .refuse _
    · exact .take s _ rfl
  case nextEvent =>
    refine ⟨_, rfl, ?_⟩
    split
    · exact .take s _ rfl
    · exact .take (s.withPort _) _ rfl
  case setMask =>
    refine ⟨_, rfl, ?_⟩
    split
    · exact .accept rfl
    · exact .refuse _
  all_goals cases hcode

/-! ### Counted and uncounted requests -/

theorem exec_decides (h : isRequest c) (hc : s.port.awaitCsn = false) : Decides s (exec c s) := by
  obtain ⟨r, hexec, hdecides⟩ := exec_request h s
  rwa [hexec, request_counted hc]

/-- Settles O3: a decision is a refusal, INVALID or a taken request, and each writes the transaction's summary. -/
theorem refusedRequestChangesNothing : Obligations.RefusedRequestChangesNothing := fun _ _ _ _ hrequest hc hexec hreply =>
  Decides.reply (hexec ▸ exec_decides hrequest hc) hreply

theorem requestsIgnoredUntilCsnRises : RequestsIgnoredUntilCsnRises := fun _ s hrequest hc => by
  obtain ⟨r, hexec, -⟩ := exec_request hrequest s
  exact hexec.trans (request_uncounted hc r)

end Sys2Proof.Machine
end

section
/-! Every command completes, and the waiting commands stay (spec/09_host_port.md R160; spec/10_host_requests.md R170; logs 2 and 5): the
requests by their decision, the events by what each of their shared operations writes. -/

namespace Sys2Proof.Machine

open Sys2Proof.Safety Sys2Proof.Obl

variable {s t u : State} {c : Instr}

/-! ### Shared operations that leave the waiting commands alone -/

theorem pending_ite {p : Prop} [Decidable p] (ht : t.pending = s.pending) (hu : u.pending = s.pending) :
    (if p then t else u).pending = s.pending := by
  split
  · exact ht
  · exact hu

@[simp] theorem pending_isolate (s : State) (r : IsoReason) : (isolate s r).pending = s.pending := by
  obtain ⟨-, -, -, -, -, hpending⟩ := isolate_keeps s r
  exact hpending

@[simp] theorem pending_reportAccepted (own : Bool) (s : State) : (reportAccepted own s).pending = s.pending :=
  (ChannelWrites.reportAccepted own s).pending

@[simp] theorem pending_grantOutcomes (s : State) (w : List WaitEntry) : (grantOutcomes s w).pending = s.pending :=
  (ChannelWrites.grantOutcomes s w).pending

@[simp] theorem pending_stoppedOutcome (s : State) (all : Bool) : (stoppedOutcome s all).pending = s.pending :=
  (ChannelWrites.stoppedOutcome s all).pending

@[simp] theorem pending_coverStop (own : Bool) (a : Option StationNo) (s : State) : (coverStop own a s).pending = s.pending :=
  (ChannelWrites.coverStop own a s).pending

@[simp] theorem pending_retire (s : State) (r : Reason) : (retire s r).pending = s.pending := (ChannelWrites.retire s r).pending

theorem pending_ifJoined {own : Bool} (ht : t.pending = s.pending) : (ifJoined own s t).pending = s.pending :=
  pending_ite ht (pending_reportAccepted own s)

/-! ### The line controller -/

theorem pending_quietLine (s : State) : (quietLine s).pending = s.pending := pending_ite rfl rfl

theorem pending_opportunity (s : State) (edge : StartEdge) : (opportunity s edge).pending = s.pending := by
  unfold opportunity
  split <;> rfl

theorem pending_winArbitration (s : State) : (winArbitration s).pending = s.pending := by
  unfold winArbitration
  split <;> rfl

theorem pending_settleOwner (s : State) (o : Owner) : (settleOwner s o).pending = s.pending := by
  cases o with
  | shed => exact (ChannelWrites.of_queue (settleRaise_frame s)).pending
  | channel c => exact (ChannelWrites.settleSpoil s c).pending
  | membership => rfl
  | go => rfl
  | note => rfl

/-- A failed attempt counts, settles what is owed, or isolates (R30, R31). -/
theorem pending_failedAttempt (s : State) (x : Carrier) : (failedAttempt s x).pending = s.pending := by
  cases x with
  | stop =>
    unfold failedAttempt
    dsimp only
    split
    · rfl
    · exact pending_ite rfl (pending_isolate s _)
  | census =>
    unfold failedAttempt
    dsimp only
    split
    · rfl
    · exact pending_ite rfl (pending_isolate s _)
  | entry o =>
    unfold failedAttempt
    dsimp only
    split
    · rfl
    · exact pending_ite (pending_settleOwner _ o) (pending_isolate s _)

theorem pending_failCarried (s : State) (x : Option Carrier) : (failCarried s x).pending = s.pending := by
  cases x with
  | none => rfl
  | some x => exact pending_failedAttempt s x

theorem pending_collisionEnds (wellFormed : Bool) (s : State) : (collisionEnds wellFormed s).pending = s.pending :=
  pending_ite (pending_isolate s _) (pending_failCarried (backToIdle s) _)

/-! ### The effects of accepted frames -/

section
variable (own : Bool) (s : State)

theorem pending_claimEffect (n : StationNo) (d : ChanNo) (k : PriClass) (units : Nat) (g : GroupNo) (w : Bool) :
    (claimEffect n d k units g w own s).pending = s.pending := by
  refine pending_ifJoined ((pending_grantOutcomes _ _).trans (pending_ite ?_ ?_))
  · exact (ChannelWrites.claimOutcome _ d units g _).pending.trans (pending_reportAccepted own _)
  · exact pending_reportAccepted own _

theorem pending_releaseEffect (change : State → Pool × List WaitEntry) (n : StationNo) (d : ChanNo) (units : Nat) (f : ReleaseForm) :
    (releaseEffect change n d units f own s).pending = s.pending := by
  refine pending_ifJoined ((pending_grantOutcomes _ _).trans (pending_ite ?_ ?_))
  · exact (ChannelWrites.releaseOutcome _ d units f).pending.trans (pending_reportAccepted own _)
  · exact pending_reportAccepted own _

theorem pending_goEffect (g : GroupNo) : (goEffect g own s).pending = s.pending :=
  pending_ifJoined ((ChannelWrites.goOutcome _ g).pending.trans (pending_reportAccepted own s))

theorem pending_shedSetEffect (l : ShedLevel) : (shedSetEffect l own s).pending = s.pending := by
  have hswept : ∀ r : Pool × List WaitEntry,
      (grantOutcomes (if s.pool.level < l then shedOutcome (reportAccepted own (s.withPool r.1)) l
        else reportAccepted own (s.withPool r.1)) r.2).pending = s.pending := fun r => by
    refine (pending_grantOutcomes _ _).trans (pending_ite ?_ (pending_reportAccepted own _))
    exact (ChannelWrites.shedOutcome _ l).pending.trans (pending_reportAccepted own _)
  exact pending_ifJoined (pending_ite (hswept _) (hswept _))

theorem pending_shedRaiseEffect (p : ShedLevel) : (shedRaiseEffect p own s).pending = s.pending :=
  pending_ite (pending_shedSetEffect own s (p + 1)) (pending_reportAccepted own s)

theorem pending_stopAllEffect : (stopAllEffect own s).pending = s.pending := pending_ifJoined (by simp)

theorem pending_stopStationEffect (n : StationNo) : (stopStationEffect n own s).pending = s.pending :=
  pending_ifJoined ((pending_grantOutcomes _ _).trans (pending_ite (by simp) (by simp)))

theorem pending_noteEffect (n : Note) : (noteEffect n own s).pending = s.pending :=
  have hreported := pending_reportAccepted own s
  pending_ifJoined (pending_ite (pending_ite hreported hreported) hreported)

theorem pending_memberJoin (n : StationNo) (x : Terms) : (memberJoin n x s).pending = s.pending :=
  pending_ite (pending_isolate s _) (pending_ite (pending_grantOutcomes _ _) rfl)

theorem pending_joinEffect (n : StationNo) (x : Terms) : (joinEffect n x own s).pending = s.pending := by
  unfold joinEffect
  split
  · exact pending_ite (pending_reportAccepted true s) rfl
  · exact (pending_memberJoin _ n x).trans (pending_reportAccepted own s)
  all_goals exact pending_reportAccepted own s

theorem pending_snapshotEffect (x : Terms) (p : Pool) : (snapshotEffect x p own s).pending = s.pending := by
  have hreported := pending_reportAccepted own s
  unfold snapshotEffect
  split
  · exact pending_ite ((pending_isolate _ _).trans hreported) (pending_ite hreported hreported)
  · exact pending_ite (pending_reportAccepted true s) (ChannelWrites.withdrawSnapshot s).pending
  all_goals exact hreported

theorem pending_memberCounts (h : CensusHeader) (m : Maps) : (memberCounts s h m).pending = s.pending := by
  unfold memberCounts
  split
  · rfl
  · exact pending_grantOutcomes _ _

theorem pending_memberCensus (h : CensusHeader) (m : Maps) : (memberCensus own s h m).pending = s.pending :=
  pending_ite (pending_isolate _ _)
    (pending_ite (pending_ite (pending_isolate _ _) rfl) (pending_ite (pending_isolate _ _) (pending_memberCounts _ h m)))

theorem pending_syncingCensus (h : CensusHeader) (m : Maps) : (syncingCensus s h m).pending = s.pending :=
  pending_ite rfl (pending_ite (pending_ite rfl rfl) (pending_ite rfl (pending_isolate _ _)))

theorem pending_censusEffect (h : CensusHeader) (m : Maps) : (censusEffect h m own s).pending = s.pending := by
  have hreported := pending_reportAccepted own s
  unfold censusEffect
  dsimp only
  split
  · exact (pending_memberCensus own _ h m).trans hreported
  · exact (pending_syncingCensus _ h m).trans hreported
  all_goals exact hreported

end

/-! ### Every command -/

/-- An accepted frame completes as its effect does, whatever part the station has in it. -/
theorem acceptFrame_completes {role : FrameRole} {effect : Bool → State → State}
    (h : ∀ (own : Bool) (u : State), (effect own u).pending = u.pending) :
    ∃ t, acceptFrame s role effect = .next t ∧ t.pending = s.pending := by
  cases role with
  | own => exact ⟨_, rfl, h true _⟩
  | peer => exact ⟨_, rfl, h false _⟩
  | bystander => exact ⟨_, rfl, rfl⟩
  | unheard => exact ⟨_, rfl, rfl⟩

theorem execTransactionEnd_completes (edge : CsnEdge) (die : Int) (vs : Nat) (s : State) :
    ∃ t, execTransactionEnd edge die vs s = .next t ∧ t.pending = s.pending := by
  refine ⟨_, rfl, ?_⟩
  split
  · rfl
  · rfl
  · rfl
  · exact pending_ite (pending_ite rfl rfl) rfl

theorem execProbeWindowEnd_completes (periods : Nat) (s : State) :
    ∃ t, execProbeWindowEnd periods s = .next t ∧ t.pending = s.pending := by
  unfold execProbeWindowEnd
  split
  · exact ⟨_, rfl, rfl⟩
  dsimp only
  split
  · exact ⟨_, rfl, (ChannelWrites.probePassed _ _).pending⟩
  · exact ⟨_, rfl, (ChannelWrites.writeRecord _ _ _ _ _ _).pending⟩

theorem pending_requestRaise (s : State) : (requestRaise s).pending = s.pending :=
  pending_ite (ChannelWrites.of_queue (sagRaise_frame s)).pending rfl

theorem pending_setTemperature (s : State) (x : TempState) : (setTemperature s x).pending = s.pending := rfl

theorem pending_setSupply (s : State) (x : SupplyState) : (setSupply s x).pending = s.pending := rfl

theorem pending_enterShutdown (s : State) : (enterShutdown s).pending = s.pending :=
  (pending_setTemperature _ _).trans (pending_retire s .hot)

/-- A command that is no request is an event, or UNKNOWN with a code of the table; each has a next state. -/
theorem event_completes (h : ¬ isRequest c) (s : State) : ∃ t, exec c s = .next t ∧ t.pending = s.pending := by
  cases c
  case powerOn => exact ⟨_, rfl, rfl⟩
  case pinReset => exact ⟨_, rfl, rfl⟩
  case transactionEnd edge die vs => exact execTransactionEnd_completes edge die vs s
  case unknown code =>
    cases hlisted : knownCodes.contains code with
    | true => exact ⟨s, if_pos hlisted, rfl⟩
    | false => exact absurd ⟨rfl, congrArg (!·) hlisted⟩ h
  case stopInputAssertion =>
    by_cases hin : s.stopInput = true
    · exact ⟨s, if_pos hin, rfl⟩
    · exact ⟨_, if_neg hin, pending_ite rfl rfl⟩
  case stopInputRelease => exact ⟨_, rfl, rfl⟩
  case idleGap edge =>
    exact ⟨_, rfl, pending_ite ((pending_opportunity _ edge).trans (pending_quietLine s)) (pending_quietLine s)⟩
  case firstIdleGap => exact ⟨_, rfl, pending_ite rfl rfl⟩
  case arbitrationWon => exact ⟨_, rfl, pending_ite (pending_winArbitration s) rfl⟩
  case readbackFault => exact ⟨_, rfl, pending_ite (pending_failCarried _ _) rfl⟩
  case duplicateCollision =>
    refine ⟨_, rfl, ?_⟩
    split
    · rfl
    · exact pending_ite (pending_collisionEnds _ s) rfl
    · rfl
    · rfl
  case censusAnswerField =>
    refine ⟨_, rfl, ?_⟩
    split <;> rfl
  case frameSpoiled =>
    refine ⟨_, rfl, ?_⟩
    split
    · exact pending_failCarried (backToIdle s) _
    · exact pending_failCarried (backToIdle s) _
    all_goals rfl
  case claim n d k units g w => exact acceptFrame_completes fun own u => pending_claimEffect own u n d k units g w
  case release n d k units full => exact acceptFrame_completes fun own u => pending_releaseEffect own u _ n d units _
  case withdraw n d k units => exact acceptFrame_completes fun own u => pending_releaseEffect own u _ n d units _
  case goApplied n g => exact acceptFrame_completes fun own u => pending_goEffect own u g
  case shedSet n l => exact acceptFrame_completes fun own u => pending_shedSetEffect own u l
  case shedRaise n p => exact acceptFrame_completes fun own u => pending_shedRaiseEffect own u p
  case stopAll n => exact acceptFrame_completes pending_stopAllEffect
  case stopStation n m => exact acceptFrame_completes fun own u => pending_stopStationEffect own u m
  case note n m d => exact acceptFrame_completes fun own u => pending_noteEffect own u ⟨n, m, d⟩
  case join n x => exact acceptFrame_completes fun own u => pending_joinEffect own u n x
  case snapshot n x p => exact acceptFrame_completes fun own u => pending_snapshotEffect own u x p
  case census n header m => exact acceptFrame_completes fun own u => pending_censusEffect own u header m
  case noteHoldExpiry => exact ⟨_, rfl, pending_ite rfl rfl⟩
  case holdEnd => exact ⟨_, rfl, pending_ite rfl rfl⟩
  case dataStuck => exact ⟨_, rfl, pending_ite rfl rfl⟩
  case holdStuck =>
    refine ⟨_, rfl, ?_⟩
    split <;> rfl
  case stuckExit => exact ⟨_, rfl, pending_ite rfl rfl⟩
  case censusTimerExpiry => exact ⟨_, rfl, pending_ite rfl rfl⟩
  case syncTimerExpiry => exact ⟨_, rfl, pending_ite rfl rfl⟩
  case silenceTimerExpiry => exact ⟨_, rfl, pending_ite (pending_isolate s _) rfl⟩
  case rejoinTimerExpiry => exact ⟨_, rfl, pending_ite rfl rfl⟩
  case inrushTimerExpiry d => exact ⟨_, rfl, pending_ite (ChannelWrites.inrushOver s d).pending rfl⟩
  case spacingTimerExpiry => exact ⟨_, rfl, pending_ite (pending_ite (ChannelWrites.startHead _).pending rfl) rfl⟩
  case probeWindowEnd periods => exact execProbeWindowEnd_completes periods s
  case overcurrent d x =>
    have hwrites := (ChannelWrites.writeRecord s d .overcurrent true (measured x) (s.channel d).state).trans (.faultChannel _ d)
    exact ⟨_, rfl, pending_ite hwrites.pending rfl⟩
  case openLoad d x => exact ⟨_, rfl, pending_ite (ChannelWrites.openLoadFound s d x).pending rfl⟩
  case openLoadRearm => exact ⟨_, rfl, pending_ite rfl rfl⟩
  case currentMeasurement => exact ⟨_, rfl, rfl⟩
  case thermalWarning => exact ⟨_, rfl, pending_ite (pending_enterShutdown s) (pending_ite rfl (pending_ite rfl rfl))⟩
  case thermalShutdown => exact ⟨_, rfl, pending_ite (pending_enterShutdown s) rfl⟩
  case shutdownExit => exact ⟨_, rfl, pending_ite rfl rfl⟩
  case lockoutEntry => exact ⟨_, rfl, pending_ite ((pending_setSupply _ _).trans (pending_retire s .supply)) rfl⟩
  case lockoutExit => exact ⟨_, rfl, pending_ite rfl rfl⟩
  case sagEpisodeOpen => exact ⟨_, rfl, pending_ite (pending_requestRaise _) rfl⟩
  case sagEpisodeClose => exact ⟨_, rfl, pending_ite rfl rfl⟩
  case stationClockTick => exact ⟨_, rfl, rfl⟩
  all_goals exact absurd ⟨rfl, rfl⟩ h

/-- Settles O2: a request is decided, or not counted (R168); every other command is an event. -/
theorem everyCommandCompletes : Obligations.EveryCommandCompletes := by
  intro c s
  by_cases hrequest : isRequest c
  · cases hc : s.port.awaitCsn with
    | true => exact ⟨s, requestsIgnoredUntilCsnRises c s hrequest hc, rfl⟩
    | false => exact (exec_decides hrequest hc).completes
  · exact event_completes hrequest s

end Sys2Proof.Machine
end

section
/-! SET_ITEM (spec/09_host_port.md R161; spec/10_host_requests.md R171): each item of the store has one range, and a value within it is
what the item is afterwards, with all others left alone. -/

namespace Sys2Proof.Machine

open Sys2Proof.Safety Sys2Proof.Obl

variable {s : State} {α β : Type}

/-! ### One item among others -/

/-- From `x` to `y` the item `n` took the value `v`, and no other item changed. -/
def Changes (item : α → Nat → Nat) (x y : α) (n v : Nat) : Prop := item y n = v ∧ ∀ m, m ≠ n → item y m = item x m

/-- How the item `n` of a record is written: `put` refuses a value outside the range, and every value where `n` names no item; a value
within the range becomes the item's, and no other item changes. -/
structure WritesItem (range : Option (Nat × Nat)) (put : Nat → Option α) (item : α → Nat → Nat) (x : α) (n : Nat) : Prop where
  unnamed : range = none → ∀ v, put v = none
  outside : ∀ lo hi, range = some (lo, hi) → ∀ v, ¬ (lo ≤ v ∧ v ≤ hi) → put v = none
  written : ∀ lo hi, range = some (lo, hi) → ∀ v, lo ≤ v → v ≤ hi → ∃ y, put v = some y ∧ Changes item x y n v

namespace WritesItem

variable {item : α → Nat → Nat} {x : α} {n : Nat} {range : Option (Nat × Nat)} {put : Nat → Option α}

theorem of_unnamed (h : ∀ v, put v = none) : WritesItem none put item x n where
  unnamed _ := h
  outside _ _ hrange := nomatch hrange
  written _ _ hrange := nomatch hrange

theorem of_range {lo hi : Nat} (houtside : ∀ v, ¬ (lo ≤ v ∧ v ≤ hi) → put v = none)
    (hwritten : ∀ v, lo ≤ v → v ≤ hi → ∃ y, put v = some y ∧ Changes item x y n v) : WritesItem (some (lo, hi)) put item x n where
  unnamed hrange := nomatch hrange
  outside _ _ hrange := by
    cases hrange
    exact houtside
  written _ _ hrange := by
    cases hrange
    exact hwritten

theorem within (lo hi : Nat) {f : Nat → α} (h : ∀ v, Changes item x (f v) n v) :
    WritesItem (some (lo, hi)) (fun v => (within lo hi v).map f) item x n :=
  .of_range (fun v hv => by simp [Machine.within, hv]) fun v hlo hhi => ⟨f v, by simp [Machine.within, hlo, hhi], h v⟩

theorem onOff {f : Bool → α} (h : ∀ b, Changes item x (f b) n b.toNat) :
    WritesItem (some (0, 1)) (fun v => (onOff v).map f) item x n := by
  refine .of_range (fun v hv => ?_) fun v _ hhi => ?_
  · rw [Machine.onOff, if_neg (by omega), if_neg (by omega)]
    rfl
  · rcases Nat.le_one_iff_eq_zero_or_eq_one.mp hhi with rfl | rfl
    · exact ⟨f false, rfl, h false⟩
    · exact ⟨f true, rfl, h true⟩

theorem fin {k : Nat} {f : Fin (k + 1) → α} (h : ∀ i, Changes item x (f i) n i.val) :
    WritesItem (some (0, k)) (fun v => if h : v < k + 1 then some (f ⟨v, h⟩) else none) item x n :=
  .of_range (fun v hv => dif_neg (by omega)) fun v _ hhi => ⟨f ⟨v, by omega⟩, dif_pos (by omega), h _⟩

/-- An item of a part is an item of the whole. -/
theorem map {item' : β → Nat → Nat} {x' : β} {n' : Nat} (hw : WritesItem range put item x n) {g : α → β}
    (h : ∀ y v, Changes item x y n v → Changes item' x' (g y) n' v) :
    WritesItem range (fun v => (put v).map g) item' x' n' where
  unnamed hrange v := by rw [hw.unnamed hrange v, Option.map_none]
  outside lo hi hrange v hv := by rw [hw.outside lo hi hrange v hv, Option.map_none]
  written lo hi hrange v hlo hhi := by
    obtain ⟨y, hput, hchanges⟩ := hw.written lo hi hrange v hlo hhi
    exact ⟨g y, by rw [hput, Option.map_some], h y v hchanges⟩

end WritesItem

/-- Items that are the entries of a list change one at a time as the entries do. -/
theorem changes_of_set {item : α → Nat → Nat} {items : α → List Nat}
    (hitem : ∀ z m, m < (items z).length → item z m = (items z).getD m 0)
    {x y : α} {n v : Nat} (hn : n < (items x).length) (hset : items y = (items x).set n v)
    (hrest : ∀ m, (items x).length ≤ m → item y m = item x m) : Changes item x y n v := by
  have hlength : (items y).length = (items x).length := by rw [hset, List.length_set]
  refine ⟨?_, fun m hm => ?_⟩
  · rw [hitem y n (by omega), hset]
    simp [hn]
  · rcases lt_or_ge m (items x).length with hlt | hge
    · rw [hitem y m (by omega), hitem x m hlt, hset]
      simp [List.getElem?_set_ne hm.symm]
    · exact hrest m hge

/-! ### A channel's items (R161) -/

/-- The ranges of a channel's items by number (R161). -/
def chanRanges : List (Nat × Nat) :=
  [(0, 1), (0, 3), (0, 15), (1, 255), (0, 255), (1, 255), (1, 200), (0, 250), (0, 1), (0, 1), (0, 65535), (0, 65535), (0, 1)]

/-- A channel's items in the order of their numbers. -/
def chanItems (x : ChanSettings) : List Nat :=
  [x.enable.toNat, x.cls, x.group, x.inrush, x.hold, x.inrushTime, x.currentLimit, x.olThreshold, x.olReport.toNat, x.probe.toNat,
    x.openCount, x.shortCount, x.faultToPin.toNat]

theorem chanItemValue_eq (x : ChanSettings) (n : Nat) : chanItemValue x n = (chanItems x).getD n 0 := by
  rcases lt_or_ge n 13 with hlt | hge
  · interval_cases n <;> rfl
  · obtain ⟨k, rfl⟩ := Nat.exists_eq_add_of_le' hge
    rfl

theorem changes_chanItem {x y : ChanSettings} {n v : Nat} (hset : chanItems y = (chanItems x).set n v) (hn : n < 13 := by decide) :
    Changes chanItemValue x y n v :=
  changes_of_set (fun z n _ => chanItemValue_eq z n) hn hset fun m hm => by
    rw [chanItemValue_eq, chanItemValue_eq, hset, List.getD_eq_default _ _ hm, List.getD_eq_default _ _ (by rwa [List.length_set])]

theorem setChanItem_writes (x : ChanSettings) : ∀ n, WritesItem chanRanges[n]? (setChanItem x n) chanItemValue x n
  | 0 => .onOff fun _ => changes_chanItem rfl
  | 1 => .fin (k := 3) (f := fun i => ({ x with cls := i } : ChanSettings)) fun _ => changes_chanItem rfl
  | 2 => .fin (k := 15) (f := fun i => ({ x with group := i } : ChanSettings)) fun _ => changes_chanItem rfl
  | 3 => .within _ _ fun _ => changes_chanItem rfl
  | 4 => .within _ _ fun _ => changes_chanItem rfl
  | 5 => .within _ _ fun _ => changes_chanItem rfl
  | 6 => .within _ _ fun _ => changes_chanItem rfl
  | 7 => .within _ _ fun _ => changes_chanItem rfl
  | 8 => .onOff fun _ => changes_chanItem rfl
  | 9 => .onOff fun _ => changes_chanItem rfl
  | 10 => .within _ _ fun _ => changes_chanItem rfl
  | 11 => .within _ _ fun _ => changes_chanItem rfl
  | 12 => .onOff fun _ => changes_chanItem rfl
  | _ + 13 => .of_unnamed fun _ => rfl

/-! ### The items of the store (R161) -/

/-- The store's items that are no channel's, in the order of their indices. -/
def stationItems (st : Settings) : List Nat :=
  [st.poolLimit, st.censusCode, st.startSpacing, st.sagCode, st.sagShedding.toNat, st.autoRejoin.toNat, st.pairLock[0].toNat,
    st.pairLock[1].toNat, st.pairLock[2].toNat]

theorem itemValue_station (st : Settings) (n : Nat) (hn : n < (stationItems st).length) : itemValue st n = (stationItems st).getD n 0 := by
  change n < 9 at hn
  interval_cases n <;> rfl

/-- A channel item's index names the channel in its high half and the item in its low half. -/
theorem itemValue_channel (st : Settings) {n : Nat} (h : 0x10 ≤ n ∧ n < 0x70) :
    itemValue st n = chanItemValue (st.chans[(n - 0x10) / 16]) (n % 16) := by
  unfold itemValue
  split
  case h_10 => exact dif_pos h
  all_goals omega

theorem itemValue_unnamed (st : Settings) {n : Nat} (hn : 9 ≤ n) (h : ¬ (0x10 ≤ n ∧ n < 0x70)) : itemValue st n = 0 := by
  unfold itemValue
  split
  case h_10 => exact dif_neg h
  all_goals omega

theorem changes_stationItem {x y : Settings} {n v : Nat} (hset : stationItems y = (stationItems x).set n v) (hchans : y.chans = x.chans)
    (hn : n < 9 := by decide) : Changes itemValue x y n v := by
  refine changes_of_set itemValue_station hn hset fun m hm => ?_
  by_cases h : 0x10 ≤ m ∧ m < 0x70
  · simp only [itemValue_channel _ h, hchans]
  · rw [itemValue_unnamed y hm h, itemValue_unnamed x hm h]

theorem changes_channelItem (st : Settings) {n : Nat} (h : 0x10 ≤ n ∧ n < 0x70) (y : ChanSettings) (v : Nat)
    (hy : Changes chanItemValue (st.chans[(n - 0x10) / 16]) y ((n - 0x10) % 16) v) :
    Changes itemValue st { st with chans := st.chans.set ((n - 0x10) / 16) y } n v := by
  obtain ⟨hitem, hother⟩ := hy
  refine ⟨?_, fun m hm => ?_⟩
  · rw [itemValue_channel _ h]
    simpa [show n % 16 = (n - 0x10) % 16 by omega] using hitem
  · by_cases hchannel : 0x10 ≤ m ∧ m < 0x70
    · rw [itemValue_channel _ hchannel, itemValue_channel _ hchannel]
      by_cases hsame : (n - 0x10) / 16 = (m - 0x10) / 16
      · simpa [← hsame] using hother (m % 16) (by omega)
      · simp [hsame]
    · rcases lt_or_ge m 9 with hlt | hge
      · rw [itemValue_station _ m hlt, itemValue_station _ m hlt]
        rfl
      · rw [itemValue_unnamed _ hge hchannel, itemValue_unnamed _ hge hchannel]

theorem setStoreItem_channel (st : Settings) {n : Nat} (h : 0x10 ≤ n ∧ n < 0x70) (v : Nat) :
    setStoreItem st n v
      = (setChanItem (st.chans[(n - 0x10) / 16]) ((n - 0x10) % 16) v).map
        fun x => { st with chans := st.chans.set ((n - 0x10) / 16) x } := by
  unfold setStoreItem
  split
  case h_10 => exact dif_pos h
  all_goals omega

theorem setStoreItem_unnamed (st : Settings) {n : Nat} (hn : 9 ≤ n) (h : ¬ (0x10 ≤ n ∧ n < 0x70)) (v : Nat) :
    setStoreItem st n v = none := by
  unfold setStoreItem
  split
  case h_10 => exact dif_neg h
  all_goals omega

theorem itemRange_channel {n : Nat} (h : 0x10 ≤ n ∧ n < 0x70) : itemRange n = chanRanges[(n - 0x10) % 16]? := by
  rw [itemRange, if_neg (by omega), if_pos h.2, show (n - 0x10) % 16 = n % 16 by omega]
  rfl

theorem itemRange_unnamed {n : Nat} (hn : 9 ≤ n) (h : ¬ (0x10 ≤ n ∧ n < 0x70)) : itemRange n = none := by
  unfold itemRange
  split
  · exact List.getElem?_eq_none hn
  · rw [if_neg (by omega)]

theorem setStoreItem_writes_channel (st : Settings) {n : Nat} (hn : 9 ≤ n) :
    WritesItem (itemRange n) (setStoreItem st n) itemValue st n := by
  by_cases h : 0x10 ≤ n ∧ n < 0x70
  · rw [itemRange_channel h, funext (setStoreItem_channel st h)]
    exact (setChanItem_writes _ _).map (changes_channelItem st h)
  · rw [itemRange_unnamed hn h]
    exact .of_unnamed (setStoreItem_unnamed st hn h)

theorem setStoreItem_writes (st : Settings) : ∀ n, WritesItem (itemRange n) (setStoreItem st n) itemValue st n
  | 0 => .within _ _ fun _ => changes_stationItem rfl rfl
  | 1 => .within _ _ fun _ => changes_stationItem rfl rfl
  | 2 => .within _ _ fun _ => changes_stationItem rfl rfl
  | 3 => .within _ _ fun _ => changes_stationItem rfl rfl
  | 4 => .onOff fun _ => changes_stationItem rfl rfl
  | 5 => .onOff fun _ => changes_stationItem rfl rfl
  | 6 => .onOff fun _ => changes_stationItem (by simp [stationItems]) rfl
  | 7 => .onOff fun _ => changes_stationItem (by simp [stationItems]) rfl
  | 8 => .onOff fun _ => changes_stationItem (by simp [stationItems]) rfl
  | n + 9 => setStoreItem_writes_channel st (Nat.le_add_left 9 n)

/-! ### SET_ITEM (R171) -/

theorem execSetItem_of_none {index : Byte} {value : BitVec 16} (hc : s.port.awaitCsn = false) (hs : s.member.station = .unconfigured)
    (h : setStoreItem s.settings index.toNat value.toNat = none) : execSetItem index value s = .next (replied s .range 0) := by
  rw [execSetItem, request_counted hc, if_neg (not_not.mpr hs), h]
  exact refuse_replied s .range

theorem execSetItem_of_some {index : Byte} {value : BitVec 16} {st : Settings} (hc : s.port.awaitCsn = false)
    (hs : s.member.station = .unconfigured) (h : setStoreItem s.settings index.toNat value.toNat = some st) :
    execSetItem index value s = .next { replied s .accepted 0 with settings := st } := by
  rw [execSetItem, request_counted hc, if_neg (not_not.mpr hs), h]
  exact accept_replied rfl

/-- Settles O4: the store is written item by item as R161's ranges say. -/
theorem setItemWritesOneItem : Obligations.SetItemWritesOneItem := by
  refine fun index value s hc => ⟨fun hs => ?_, fun hs => ?_⟩
  · change execSetItem index value s = _
    rw [execSetItem, request_counted hc, if_pos hs, refuse_replied]
  · have hwrites := setStoreItem_writes s.settings index.toNat
    refine ⟨fun hrange => execSetItem_of_none hc hs (hwrites.unnamed hrange _), fun lo hi hrange => ⟨fun hv => ?_, fun hlo hhi => ?_⟩⟩
    · exact execSetItem_of_none hc hs (hwrites.outside lo hi hrange _ hv)
    · obtain ⟨st, hput, hitem, hother⟩ := hwrites.written lo hi hrange _ hlo hhi
      exact ⟨st, execSetItem_of_some hc hs hput, hitem, hother⟩

end Sys2Proof.Machine
end

section
/-! READ_ITEM, NEXT_EVENT and SET_MASK (spec/09_host_port.md R163 to R165; spec/10_host_requests.md R182): the table of readable items, the
flag taken, one mask. -/

namespace Sys2Proof.Machine

open Sys2Proof.Safety Sys2Proof.Obl

variable {s : State} {index : Byte} {sel value : BitVec 16} {i : Nat} {w : BitVec 16}

/-! ### The table's items by their numbers (R163) -/

theorem lowHalf_eq (x : BitVec 32) : lowHalf x = word (x.toNat % 65536) := by
  apply BitVec.eq_of_toNat_eq
  simp [lowHalf, word]

theorem highHalf_eq (x : BitVec 32) : highHalf x = word (x.toNat / 65536) := by
  apply BitVec.eq_of_toNat_eq
  simp [highHalf, word, Nat.shiftRight_eq_div_pow]

/-- A fault record's field reads as 0 where no record is held. -/
theorem faultField_eq (x : Channel) (f : FaultRecord → Nat) : (faultField x.fault fun r => word (f r)) = word (faultItem x f) := by
  unfold faultField faultItem
  cases x.fault <;> rfl

/-- The items of one channel, as (index, value). -/
def channelTable (x : Channel) : List (Nat × Nat) :=
  [(0x01, x.state.code), (0x02, x.counted), (0x03, (x.lastReason.map Reason.code).getD 0), (0x04, x.lastCurrent),
    (0x05, faultItem x fun r => r.kind.code), (0x06, faultItem x fun r => if r.stopping then 0 else 1),
    (0x07, faultItem x fun r => r.found.code), (0x08, faultItem x fun r => r.repeated.toNat), (0x09, faultItem x fun r => r.value),
    (0x0A, faultItem x fun r => r.time.toNat / 65536), (0x0B, faultItem x fun r => r.time.toNat % 65536)]

/-- The items of one row, as (index, value). -/
def rowTable (r : Row) : List (Nat × Nat) :=
  [(0x20, r.present.toNat), (0x21, r.misses), (0x22, r.totals[0]), (0x23, r.totals[1]), (0x24, r.totals[2]), (0x25, r.totals[3])]

/-- The port reads of a table each index with its own value, and no other index. -/
structure Reads (read : Nat → Option (BitVec 16)) (table : List (Nat × Nat)) : Prop where
  listed : ∀ e ∈ table, read e.1 = some (word e.2)
  unlisted : ∀ i, (∀ v, (i, v) ∉ table) → read i = none

theorem readChannelItem_reads (x : Channel) : Reads (readChannelItem x) (channelTable x) where
  listed := by
    have hseverity : (faultField x.fault fun r => word (!r.stopping).toNat) = word (faultItem x fun r => if r.stopping then 0 else 1) := by
      rw [← faultField_eq]
      congr
      funext r
      cases r.stopping <;> rfl
    have hzero : word 0 = 0 := rfl
    cases hreason : x.lastReason <;>
      simp [channelTable, readChannelItem, hreason, hseverity, faultField_eq, highHalf_eq, lowHalf_eq, hzero]
  unlisted i h := by
    unfold readChannelItem
    split
    case h_12 => rfl
    all_goals simp [channelTable] at h

theorem readRowItem_reads (r : Row) : Reads (readRowItem r) (rowTable r) where
  listed := by simp [rowTable, readRowItem]
  unlisted i h := by
    unfold readRowItem
    split
    case h_7 => rfl
    all_goals simp [rowTable] at h

theorem readEntryItem_reads (e : WaitEntry) : Reads (readEntryItem e) (entryFields e) where
  listed := by simp [entryFields, readEntryItem]
  unlisted i h := by
    unfold readEntryItem
    split
    case h_6 => rfl
    all_goals simp [entryFields] at h

theorem readPlainItem_reads (s : State) : Reads (readPlainItem s) (readablePlain s) where
  listed := by
    have hmaps : List.range 4 = [0, 1, 2, 3] := rfl
    simp [readablePlain, hmaps, mapOf, readPlainItem, highHalf_eq, lowHalf_eq, freeUnits, TxQueue.occupancy]
  unlisted i h := by
    have hmaps : List.range 4 = [0, 1, 2, 3] := rfl
    unfold readPlainItem
    split
    case h_24 => rfl
    all_goals simp [readablePlain, hmaps] at h

/-! ### What selects an item -/

theorem readable_eq (s : State) :
    readable s = allChannels.flatMap (fun c => (channelTable (s.channel c)).map fun e => (e.1, c.val, e.2))
      ++ (List.finRange 32).flatMap fun k => (rowTable s.pool.rows[k]).map fun e => (e.1, k.val, e.2) := rfl

theorem mem_readable {n v : Nat} :
    (i, n, v) ∈ readable s ↔
      (∃ c : ChanNo, n = c.val ∧ (i, v) ∈ channelTable (s.channel c)) ∨ ∃ k : StationNo, n = k.val ∧ (i, v) ∈ rowTable s.pool.rows[k] := by
  simp [readable_eq, mem_allChannels, and_comm, eq_comm]

theorem channelTable_index {x : Channel} {v : Nat} (h : (i, v) ∈ channelTable x) : 0x01 ≤ i ∧ i ≤ 0x0B := by
  have hi : i ∈ (channelTable x).map Prod.fst := List.mem_map_of_mem h
  simp [channelTable] at hi
  omega

theorem rowTable_index {r : Row} {v : Nat} (h : (i, v) ∈ rowTable r) : 0x20 ≤ i ∧ i ≤ 0x25 := by
  have hi : i ∈ (rowTable r).map Prod.fst := List.mem_map_of_mem h
  simp [rowTable] at hi
  omega

theorem entryFields_index {e : WaitEntry} {v : Nat} (h : (i, v) ∈ entryFields e) : 0x29 ≤ i ∧ i ≤ 0x2D := by
  have hi : i ∈ (entryFields e).map Prod.fst := List.mem_map_of_mem h
  simp [entryFields] at hi
  omega

theorem readablePlain_index {v : Nat} (h : (i, v) ∈ readablePlain s) :
    (0x10 ≤ i ∧ i ≤ 0x19) ∨ i = 0x28 ∨ (0x30 ≤ i ∧ i ≤ 0x3B) := by
  have hi : i ∈ (readablePlain s).map Prod.fst := List.mem_map_of_mem h
  simp [readablePlain, show List.range 4 = [0, 1, 2, 3] from rfl] at hi
  omega

theorem selectFin_of_eq {n : Nat} {k : Fin n} (h : sel.toNat = k.val) : selectFin n sel = some k := by
  rw [selectFin, dif_pos (h ▸ k.isLt)]
  exact congrArg some (Fin.ext h)

theorem selectFin_of_le {n : Nat} (h : n ≤ sel.toNat) : selectFin n sel = none := dif_neg (not_lt.mpr h)

theorem readItemValue_channel (h : 0x01 ≤ index.toNat ∧ index.toNat ≤ 0x0B) (s : State) (sel : BitVec 16) :
    readItemValue s index sel = (selectFin 6 sel).bind fun c => readChannelItem (s.channel c) index.toNat := if_pos h

theorem readItemValue_row (h : 0x20 ≤ index.toNat ∧ index.toNat ≤ 0x25) (s : State) (sel : BitVec 16) :
    readItemValue s index sel = (selectFin 32 sel).bind fun k => readRowItem s.pool.rows[k] index.toNat := by
  simp only [readItemValue]
  rw [if_neg (by omega), if_pos h]

theorem readItemValue_entry (h : 0x29 ≤ index.toNat ∧ index.toNat ≤ 0x2D) (s : State) (sel : BitVec 16) :
    readItemValue s index sel = s.pool.waitList[sel.toNat]?.bind fun e => readEntryItem e index.toNat := by
  simp only [readItemValue]
  rw [if_neg (by omega), if_neg (by omega), if_pos h]

theorem readItemValue_plain (hchannel : ¬ (0x01 ≤ index.toNat ∧ index.toNat ≤ 0x0B)) (hrow : ¬ (0x20 ≤ index.toNat ∧ index.toNat ≤ 0x25))
    (hentry : ¬ (0x29 ≤ index.toNat ∧ index.toNat ≤ 0x2D)) (s : State) (sel : BitVec 16) :
    readItemValue s index sel = readPlainItem s index.toNat := by
  simp only [readItemValue]
  rw [if_neg hchannel, if_neg hrow, if_neg hentry]

/-! ### READ_ITEM (R163, R182) -/

theorem readItemValue_of_readable {v : Nat} (h : (index.toNat, sel.toNat, v) ∈ readable s) :
    readItemValue s index sel = some (word v) := by
  rcases mem_readable.mp h with ⟨c, hsel, hmem⟩ | ⟨k, hsel, hmem⟩
  · rw [readItemValue_channel (channelTable_index hmem), selectFin_of_eq hsel]
    exact (readChannelItem_reads _).listed _ hmem
  · rw [readItemValue_row (rowTable_index hmem), selectFin_of_eq hsel]
    exact (readRowItem_reads _).listed _ hmem

theorem readItemValue_of_readablePlain {v : Nat} (h : (index.toNat, v) ∈ readablePlain s) (sel : BitVec 16) :
    readItemValue s index sel = some (word v) := by
  have hindex := readablePlain_index h
  rw [readItemValue_plain (by omega) (by omega) (by omega)]
  exact (readPlainItem_reads s).listed _ h

theorem readItemValue_of_entry (hsel : sel.toNat < s.pool.waitList.length) {v : Nat}
    (h : (index.toNat, v) ∈ entryFields (s.pool.waitList[sel.toNat]'hsel)) : readItemValue s index sel = some (word v) := by
  rw [readItemValue_entry (entryFields_index h), List.getElem?_eq_getElem hsel]
  exact (readEntryItem_reads _).listed _ h

/-- An index that is no item's, and a selector out of its item's range, reads nothing. -/
theorem readItemValue_none (htable : ∀ v, (index.toNat, sel.toNat, v) ∉ readable s) (hplain : ∀ v, (index.toNat, v) ∉ readablePlain s)
    (hentry : s.pool.waitList.length ≤ sel.toNat ∨ index.toNat < 0x29 ∨ 0x2D < index.toNat) : readItemValue s index sel = none := by
  by_cases hc : 0x01 ≤ index.toNat ∧ index.toNat ≤ 0x0B
  · rw [readItemValue_channel hc]
    rcases lt_or_ge sel.toNat 6 with hlt | hge
    · rw [selectFin_of_eq (k := ⟨sel.toNat, hlt⟩) rfl]
      exact (readChannelItem_reads _).unlisted _ fun v hv => htable v (mem_readable.mpr (.inl ⟨⟨sel.toNat, hlt⟩, rfl, hv⟩))
    · rw [selectFin_of_le hge, Option.bind_none]
  by_cases hr : 0x20 ≤ index.toNat ∧ index.toNat ≤ 0x25
  · rw [readItemValue_row hr]
    rcases lt_or_ge sel.toNat 32 with hlt | hge
    · rw [selectFin_of_eq (k := ⟨sel.toNat, hlt⟩) rfl]
      exact (readRowItem_reads _).unlisted _ fun v hv => htable v (mem_readable.mpr (.inr ⟨⟨sel.toNat, hlt⟩, rfl, hv⟩))
    · rw [selectFin_of_le hge, Option.bind_none]
  by_cases he : 0x29 ≤ index.toNat ∧ index.toNat ≤ 0x2D
  · rw [readItemValue_entry he, List.getElem?_eq_none (by omega), Option.bind_none]
  · rw [readItemValue_plain hc hr he]
    exact (readPlainItem_reads s).unlisted _ hplain

theorem execReadItem_of_some (hc : s.port.awaitCsn = false) (h : readItemValue s index sel = some w) :
    execReadItem index sel s = .next (replied s .accepted w) := by
  rw [execReadItem, request_counted hc, h]
  exact acceptValue_replied s w

/-- Settles O12: the items a table lists are read, and nothing else is. -/
theorem readItemReturnsItem : Obligations.ReadItemReturnsItem := by
  refine fun index sel s hc => ⟨fun v hv => execReadItem_of_some hc (readItemValue_of_readable hv),
    fun v hv => execReadItem_of_some hc (readItemValue_of_readablePlain hv sel),
    fun hsel v hv => execReadItem_of_some hc (readItemValue_of_entry hsel hv), fun htable hplain hentry => ?_⟩
  change execReadItem index sel s = _
  rw [execReadItem, request_counted hc, readItemValue_none htable hplain hentry]
  exact refuse_replied s .range

/-! ### The flag taken (R164, R165) -/

/-- The search runs in number order, so it ends at the lowest flag that is pending and unmasked (R165). -/
theorem nextFlag_eq_some {p : Port} {k : Fin 27} (hflag : p.flags[k] = true) (hmask : p.masks[k] = false)
    (hlowest : ∀ j : Fin 27, j < k → p.flags[j] = false ∨ p.masks[j] = true) : p.nextFlag = some k := by
  refine List.find?_eq_some_iff_getElem.mpr ⟨by simp [hflag, hmask], k.val, by simp, by simp, fun j hj => ?_⟩
  have hrest := hlowest ⟨j, by omega⟩ hj
  simpa using hrest

theorem nextFlag_eq_none {p : Port} : p.nextFlag = none ↔ ¬ ∃ k : Fin 27, p.flags[k] = true ∧ p.masks[k] = false := by
  simp [Port.nextFlag]

theorem attn_iff : s.attn = true ↔ ∃ k : Fin 27, s.port.flags[k] = true ∧ s.port.masks[k] = false := by
  rw [State.attn, Option.isSome_iff_ne_none, Ne, nextFlag_eq_none, not_not]

theorem execNextEvent_taken {k : Fin 27} (hc : s.port.awaitCsn = false) (h : s.port.nextFlag = some k) :
    execNextEvent s = .next { s with
      port := { (replied s .accepted (BitVec.ofNat 16 k.val)).port with flags := s.port.flags.set k false } } := by
  rw [execNextEvent, request_counted hc, h]
  exact congrArg _ (answered_eq s _ .accepted _)

theorem execNextEvent_none (hc : s.port.awaitCsn = false) (h : s.attn = false) :
    execNextEvent s = .next (replied s .accepted 0x00FF) := by
  have hnone : s.port.nextFlag = none := by simpa [State.attn] using h
  rw [execNextEvent, request_counted hc, hnone]
  exact acceptValue_replied s _

/-! ### One mask (R165, R182) -/

theorem execSetMask_out_of_range (hc : s.port.awaitCsn = false) (h : 26 < index.toNat ∨ 1 < value.toNat) :
    execSetMask index value s = .next (replied s .range 0) := by
  rw [execSetMask, request_counted hc, ← refuse_replied]
  split
  · rename_i hindex hvalue
    rcases h with h | h
    · simp [indexFin_of_le h] at hindex
    · simp [valueFlag_of_ge h] at hvalue
  · rfl

theorem execSetMask_of_index {k : Fin 27} (hc : s.port.awaitCsn = false) (hk : index.toNat = k.val) (hv : value.toNat ≤ 1) :
    execSetMask index value s = .next { s with
      port := { (replied s .accepted 0).port with masks := s.port.masks.set k (decide (value.toNat = 1)) } } := by
  simp only [execSetMask, request_counted hc, indexFin_of_eq hk, valueFlag_of_le hv]
  exact congrArg _ (answered_eq s _ .accepted 0)

/-- Settles O13: ATTN and NEXT_EVENT by the same search, SET_MASK by its operands. -/
theorem eventsReadAndMasked : Obligations.EventsReadAndMasked := fun _ =>
  ⟨attn_iff, fun hc => ⟨execNextEvent_none hc,
    fun _ hflag hmask hlowest => execNextEvent_taken hc (nextFlag_eq_some hflag hmask hlowest),
    fun _ _ => ⟨execSetMask_out_of_range hc, fun _ hk hv => execSetMask_of_index hc hk hv⟩⟩⟩

end Sys2Proof.Machine
end

section
/-! The SPI transaction (spec/09_host_port.md R158, R159, R168; spec/10_host_requests.md R170, R183): what the bits from SDI decide, unknown
codes, CSN's edges with the soft reset, and SDO. -/

namespace Sys2Proof.Machine

open Sys2Proof.Safety Sys2Proof.Obl

variable {s : State}

/-! ### What the bits from SDI decide (R158, R159) -/

/-- A byte is read once its eight bits are. -/
theorem bitsBytes_length : ∀ bits : List Bool, (bitsBytes bits).length = bits.length / 8
  | _ :: _ :: _ :: _ :: _ :: _ :: _ :: _ :: rest => by
    rw [bitsBytes, List.length_cons, bitsBytes_length rest]
    simp only [List.length_cons]
    omega
  | [] | [_] | [_, _] | [_, _, _] | [_, _, _, _] | [_, _, _, _, _] | [_, _, _, _, _, _] | [_, _, _, _, _, _, _] => by simp [bitsBytes]

theorem decidedBy_short {sdi : List Bool} (h : sdi.length < 16) : decidedBy sdi = none := by
  have hlength := bitsBytes_length (sdi.take 32)
  rw [List.length_take] at hlength
  unfold decidedBy
  split
  · rename_i hbytes
    simp [hbytes] at hlength
    omega
  · rename_i hbytes
    simp [hbytes] at hlength
    omega
  · rfl

/-- Bits past the 32nd are not examined. -/
theorem decidedBy_whole (code index high low : Byte) (more : List Bool) :
    decidedBy (bytesBits [code, index, high, low] ++ more) = some (decodeRequest code index (high ++ low)) := by
  have hbytes : bitsBytes ((bytesBits [code, index, high, low] ++ more).take 32) = [code, index, high, low] := by
    have hread := bitsBytes_bytesBits [code, index, high, low] []
    rw [List.append_nil] at hread
    have htake : (bytesBits [code, index, high, low] ++ more).take 32 = bytesBits [code, index, high, low] :=
      List.take_left' (bytesBits_length _)
    rw [htake, hread]
    rfl
  simp only [decidedBy, hbytes]

theorem decisionByte_eq (code : Byte) :
    decisionByte code = if code.toNat ∈ [0x01, 0x10, 0x11, 0x30, 0x31, 0x40, 0x51] then 4 else 2 := by
  simp [decisionByte]

/-- At the second byte a code without a value is decided, and no other. -/
theorem decidedBy_second (code index : Byte) {more : List Bool} (h : more.length < 16) :
    decidedBy (bytesBits [code, index] ++ more) = if decisionByte code = 2 then some (decodeRequest code index 0) else none := by
  have hlength := bitsBytes_length more
  have htake : (bytesBits [code, index] ++ more).take 32 = bytesBits [code, index] ++ more :=
    List.take_of_length_le (by rw [List.length_append, bytesBits_length, List.length_cons, List.length_singleton]; omega)
  have hbytes := bitsBytes_bytesBits [code, index] more
  rw [decidedBy, htake, hbytes]
  match hrest : bitsBytes more with
  | [] => rfl
  | [_] => rfl
  | _ :: _ :: _ =>
    simp [hrest] at hlength
    omega

theorem hostBitsDecide : HostBitsDecide := by
  refine ⟨fun _ => decidedBy_short, decidedBy_whole, fun code index more h => ?_⟩
  rw [decidedBy_second code index h, decisionByte_eq]
  split <;> rfl

/-! ### Unknown codes (R170) -/

theorem unknownCodeRefused : UnknownCodeRefused := by
  intro code s hc hcode
  refine ⟨fun index value => ?_, ?_⟩
  · unfold decodeRequest
    split
    case h_20 => rfl
    all_goals
      rename_i hlisted
      exact absurd hlisted (hcode _ (by decide))
  · have hunlisted : code ∉ knownCodes := fun hmem => hcode _ (List.mem_map_of_mem (f := BitVec.toNat) hmem) rfl
    change execUnknown code s = _
    rw [execUnknown, if_neg (by simpa using hunlisted), request_counted hc, refuse_replied]

/-- Settles O47: the decision point, the codes outside the table, and the requests that no transaction holds. -/
theorem requestsNotDecidedOrUnknown : Obligations.RequestsNotDecidedOrUnknown :=
  ⟨hostBitsDecide, unknownCodeRefused, requestsIgnoredUntilCsnRises⟩

/-! ### CSN's edges (R158, R168) -/

theorem execTransactionEnd_rise (hc : s.port.awaitCsn = false) (bits : Nat) (die : Int) (vs : Nat) :
    execTransactionEnd (.rise bits) die vs s = .next (csnRises bits die vs s) := by
  simp only [execTransactionEnd, hc]

theorem execTransactionEnd_fall (hc : s.port.awaitCsn = false) (die : Int) (vs : Nat) :
    execTransactionEnd .fall die vs s = .next (csnFalls s) := by
  simp only [execTransactionEnd, hc]

/-- CSN low from a hard reset on: its rise ends the wait, and a fall is none (R168). -/
theorem execTransactionEnd_awaiting_rise (hc : s.port.awaitCsn = true) (bits : Nat) (die : Int) (vs : Nat) :
    execTransactionEnd (.rise bits) die vs s = .next { s with port := { s.port with awaitCsn := false } } := by
  simp only [execTransactionEnd, hc]
  rfl

theorem execTransactionEnd_awaiting_fall (hc : s.port.awaitCsn = true) (die : Int) (vs : Nat) :
    execTransactionEnd .fall die vs s = .next s := by
  simp only [execTransactionEnd, hc]

theorem csnRises_soft (h : s.port.softReset = true) (die : Int) (vs : Nat) : csnRises 32 die vs s = softReset die vs s := by
  rw [csnRises, if_pos rfl, if_pos h]

theorem csnRises_plain (h : s.port.softReset = false) (die : Int) (vs : Nat) :
    csnRises 32 die vs s = { s with port := { s.port with sampled := none } } := by
  rw [csnRises, if_pos rfl, if_neg (by simp [h]), ← h]
  rfl

theorem csnRises_framing {bits : Nat} (h : bits ≠ 32) (die : Int) (vs : Nat) (s : State) :
    csnRises bits die vs s
      = { s with port := { s.port with softReset := false, sampled := none, flags := pend s.port.flags [8] } } := if_neg h

theorem transactionEndChecksCount : TransactionEndChecksCount := by
  refine fun die vs s => ⟨fun hc => ⟨fun bits hbits => ?_, fun hsoft => ?_, execTransactionEnd_fall hc die vs⟩,
    fun hc => ⟨fun bits => execTransactionEnd_awaiting_rise hc bits die vs, execTransactionEnd_awaiting_fall hc die vs⟩⟩
  · exact (execTransactionEnd_rise hc bits die vs).trans (congrArg _ (csnRises_framing hbits die vs s))
  · exact (execTransactionEnd_rise hc 32 die vs).trans (congrArg _ (csnRises_plain hsoft die vs))

/-! ### The soft reset (R130, R137, R168, R183) -/

theorem channel_softReset (die : Int) (vs : Nat) (s : State) (c : ChanNo) :
    (softReset die vs s).channel c = { State.reset.channel c with
      state := if s.terms.isSome = true ∧ (s.cfg c).enable = true then .off else .disabled
      lastCurrent := (s.channel c).lastCurrent } := by
  rw [channel_reset]
  simp only [State.channel, softReset, Fin.getElem_fin, Vector.getElem_ofFn, softChannel, Bool.and_eq_true]
  rfl

theorem softResetCarriedOut : SoftResetCarriedOut := by
  refine ⟨fun s hc => (request_counted hc _).trans (congrArg _ (answered_eq s _ .accepted 0)), fun die vs s hc hsoft => ?_⟩
  exact ⟨softReset die vs s, (execTransactionEnd_rise hc 32 die vs).trans (congrArg _ (csnRises_soft hsoft die vs)), rfl,
    channel_softReset die vs s, temperatureAt_shutdown, temperatureAt_warning, temperatureAt_normal, supplyAt_lockout, supplyAt_normal⟩

/-! ### SDO (R158, R159) -/

theorem csnLow_eq_false : s.csnLow = false ↔ s.port.sampled = none ∧ s.port.awaitCsn = false := by simp [State.csnLow]

/-- While a transaction is open SDO carries the reply's bit where it is fixed. -/
theorem sdo_of_bit {p : Prop} [Decidable p] {b : Byte} {i : Nat} {bit : Bool} (hsampled : s.port.sampled = some b)
    (hbit : s.replyBits[i]? = if p then some bit else none) : s.sdo i = if p then .drives bit else .unstated := by
  rw [State.sdo, if_pos (by simp [State.csnLow, hsampled]), hbit]
  by_cases hp : p
  · rw [if_pos hp, if_pos hp]
  · rw [if_neg hp, if_neg hp]

/-- The bits of a byte sequence, each byte's most significant first. -/
theorem bytesBits_getElem? (bs : List Byte) (i : Nat) : (bytesBits bs)[i]? = bs[i / 8]?.map fun b => b.getLsbD (7 - i % 8) := by
  induction bs generalizing i with
  | nil => rfl
  | cons b bs ih =>
    rw [bytesBits, List.flatMap_cons]
    rcases lt_or_ge i 8 with hlt | hge
    · rw [List.getElem?_append_left hlt, Nat.div_eq_of_lt hlt, Nat.mod_eq_of_lt hlt]
      interval_cases i <;> rfl
    · obtain ⟨k, rfl⟩ := Nat.exists_eq_add_of_le' hge
      have hk := ih k
      rw [bytesBits] at hk
      rw [List.getElem?_append_right hge, Nat.add_div_right k (by decide), Nat.add_mod_right, List.getElem?_cons_succ, ← hk]
      rfl

/-- The high and the low byte of a result. -/
theorem getLsbD_highByte (v : BitVec 16) {j : Nat} (hj : j < 8) : (BitVec.ofNat 8 (v.toNat / 256)).getLsbD j = v.getLsbD (j + 8) := by
  rw [BitVec.getLsbD_ofNat, show (256 : Nat) = 2 ^ 8 from rfl, Nat.testBit_div_two_pow, BitVec.testBit_toNat]
  simp [hj]

theorem getLsbD_lowByte (v : BitVec 16) {j : Nat} (hj : j < 8) : (BitVec.ofNat 8 v.toNat).getLsbD j = v.getLsbD j := by
  rw [BitVec.getLsbD_ofNat, BitVec.testBit_toNat]
  simp [hj]

/-- The four reply bytes are one word, its most significant bit first (R159). -/
theorem replyBits_getElem? (r : Reply) (i : Nat) :
    r.bits[i]? = if i < 32 then some ((r.summary ++ r.outcome.code ++ r.result : BitVec 32).getLsbD (31 - i)) else none := by
  rw [Reply.bits, bytesBits_getElem?]
  have hj : 7 - i % 8 < 8 := by omega
  split
  · have hbyte : i / 8 = 0 ∨ i / 8 = 1 ∨ i / 8 = 2 ∨ i / 8 = 3 := by omega
    rw [BitVec.getLsbD_append]
    rcases hbyte with h | h | h | h
    · rw [h, if_neg (by omega), BitVec.getLsbD_append, if_neg (by omega), show 31 - i - 16 - 8 = 7 - i % 8 by omega]
      rfl
    · rw [h, if_neg (by omega), BitVec.getLsbD_append, if_pos (by omega), show 31 - i - 16 = 7 - i % 8 by omega]
      rfl
    · rw [h, if_pos (by omega), show 31 - i = 7 - i % 8 + 8 by omega]
      exact congrArg some (getLsbD_highByte r.result hj)
    · rw [h, if_pos (by omega), show 31 - i = 7 - i % 8 by omega]
      exact congrArg some (getLsbD_lowByte r.result hj)
  · have hlength : r.bytes.length ≤ i / 8 := by
      change 4 ≤ i / 8
      omega
    rw [List.getElem?_eq_none hlength, Option.map_none]

/-- The summary's bits alone, while nothing is decided. -/
theorem byteBits_getElem? (b : Byte) (i : Nat) : (byteBits b)[i]? = if i < 8 then some (b.getLsbD (7 - i)) else none := by
  split
  · interval_cases i <;> rfl
  · exact List.getElem?_eq_none (by change 8 ≤ i; omega)

theorem sdo_undecided {b : Byte} (hsampled : s.port.sampled = some b) (hreply : s.port.reply = none) (i : Nat) :
    s.sdo i = if i < 8 then .drives (b.getLsbD (7 - i)) else .unstated := by
  have hbits : s.replyBits = byteBits b := by simp only [State.replyBits, hsampled, hreply]
  exact sdo_of_bit hsampled (hbits ▸ byteBits_getElem? b i)

theorem sdo_decided {b : Byte} {r : Reply} (hsampled : s.port.sampled = some b) (hreply : s.port.reply = some r) (i : Nat) :
    s.sdo i
      = if i < 32 then .drives ((r.summary ++ r.outcome.code ++ r.result : BitVec 32).getLsbD (31 - i)) else .unstated := by
  have hbits : s.replyBits = r.bits := by simp only [State.replyBits, hsampled, hreply]
  exact sdo_of_bit hsampled (hbits ▸ replyBits_getElem? r i)

/-- Whatever CSN's rise comes to, no transaction is open after it. -/
theorem csnLow_csnRises (hc : s.port.awaitCsn = false) (bits : Nat) (die : Int) (vs : Nat) : (csnRises bits die vs s).csnLow = false := by
  rw [csnLow_eq_false]
  by_cases hbits : bits = 32
  · subst hbits
    cases hsoft : s.port.softReset with
    | true =>
      rw [csnRises_soft hsoft]
      exact ⟨rfl, rfl⟩
    | false =>
      rw [csnRises_plain hsoft]
      exact ⟨rfl, hc⟩
  · rw [csnRises_framing hbits]
    exact ⟨rfl, hc⟩

theorem sdoShiftsReply : SdoShiftsReply := by
  refine fun s => ⟨fun i => (sdo_released s i).trans csnLow_eq_false, fun b i hsampled hreply => sdo_undecided hsampled hreply i,
    fun o v i => sdo_decided (s := replied s o v) rfl rfl i, fun die vs bits => ?_⟩
  cases hc : s.port.awaitCsn with
  | true =>
    refine ⟨_, execTransactionEnd_awaiting_rise hc bits die vs, fun _ hsampled i => ?_, fun hcounted => (nomatch hcounted)⟩
    exact (sdo_released _ i).mpr (csnLow_eq_false.mpr ⟨hsampled, rfl⟩)
  | false =>
    refine ⟨_, execTransactionEnd_rise hc bits die vs, fun hawaits => (nomatch hawaits), fun _ i => ?_⟩
    exact (sdo_released _ i).mpr (csnLow_csnRises hc bits die vs)

/-- Settles O48: CSN's edges by the count and the soft reset that waits, and SDO by what of the reply is fixed. -/
theorem transactionEndActsByCount : Obligations.TransactionEndActsByCount :=
  ⟨softResetCarriedOut, transactionEndChecksCount, sdoShiftsReply⟩

end Sys2Proof.Machine
end

section
/-! The machine's own frame (log 5): what a step is, by the two forms of the queue of waiting commands. -/

namespace Sys2Proof.Machine

variable {s : State}

/-- On an empty queue the block idles. -/
theorem step_of_pending_nil (hempty : s.pending = []) : step s = .next s := by
  rw [step, hempty]

/-- First in, first out: the front command runs on the station with the rest still waiting. -/
theorem step_of_pending_cons {c : Instr} {rest : List Instr} (hfront : s.pending = c :: rest) :
    step s = exec c (s.withPending rest) := by
  rw [step, hfront]

/-- Settles O1: a step's two equations, where `withPending` writes nothing but the queue. -/
theorem stepRunsFrontCommand : Obligations.StepRunsFrontCommand :=
  ⟨fun _ _ _ hfront => step_of_pending_cons hfront, fun _ hempty => step_of_pending_nil hempty⟩

end Sys2Proof.Machine
end
